-- ==== Sys2Proof/Word.lean ====
section
/-! DEFINITION. The bit vectors that cross the part's pins: bytes and fields on the tether, raw samples of the
sensor (00_scope.md, Conventions; 11 R172). Every quantity inside the part is a Nat or an Int. -/

namespace Sys2Proof

/-- A byte of the tether or of the crawler port. -/
abbrev Byte := BitVec 8

/-- A two-byte field of a payload (R189). -/
abbrev Half := BitVec 16

/-- A four-byte field of a payload (R189). -/
abbrev Word := BitVec 32

/-- A raw sample of the sensor: 12 bits, 0 to 4095 (00_scope.md, Pixel values). -/
abbrev Sample := BitVec 12

end Sys2Proof
end

