-- ==== Sys2Proof/Syntax.lean ====
section
/-! DEFINITION. The commands and events of the part: one constructor of Instr for each row of spec/opcode_table.json,
with the row's operands. Fields of records are as the tether carries them (11 R189). -/

namespace Sys2Proof

/-- SENSOR record (R35, R189 code 1). -/
structure SensorFields where
  width : Half
  height : Half
  period : Half
  exposure : Half
  source : Byte
  deriving DecidableEq, Repr

/-- STRIP record (R6, R189 code 2). `z0` is signed on the tether. -/
structure StripFields where
  w : Half
  b0 : Half
  b1 : Half
  p : Byte
  depth : Byte
  z0 : Word
  mount : Half
  fill : Half
  deriving DecidableEq, Repr

/-- LIGHT record (R107, R189 code 3). -/
structure LightFields where
  t : Half
  tol : Half
  cap : Half
  start : Half
  deriving DecidableEq, Repr

/-- CENTRE record (R91, R189 code 4). `cx` and `cy` are signed on the tether. -/
structure CentreFields where
  cx : Half
  cy : Half
  follow : Byte
  threshold : Half
  mincount : Half
  maxoff : Half
  deriving DecidableEq, Repr

/-- ODOMETER record (R17, R189 code 5). All three fields are signed on the tether. -/
structure OdometerFields where
  sign : Byte
  step : Half
  zm : Word
  deriving DecidableEq, Repr

/-- ADVISORY record (R33, R189 code 7). -/
structure AdvisoryFields where
  tResume : Half
  tSlow : Half
  tHold : Half
  deriving DecidableEq, Repr

/-- One character of a crawler-port line, with whether it arrived with a framing error (R22). A 0x0A with one is such a
character, and not the LF that ends the line: the model's choice, log 31. -/
structure LineChar where
  byte : Byte
  framingError : Bool
  deriving DecidableEq, Repr

/-- Characters of a crawler-port line before its LF, and whether the LF has come (R22; log 27). -/
structure LinePart where
  chars : List LineChar
  ended : Bool
  deriving DecidableEq, Repr

/-- A command as LNK hands it to its owning rule (R175 step 3), or what R175 makes of a message that is none. -/
inductive Command where
  /-- The kind is not one of the seventeen (R175 step 1). -/
  | unknown (kind : Byte)
  /-- The payload does not fit the command's layout, or names no record or reset variant (R175 step 2, R179, R182). -/
  | malformed
  | identify (leaf : Byte)
  | status
  | sensor (r : SensorFields)
  | strip (r : StripFields)
  | light (r : LightFields)
  | centre (r : CentreFields)
  | odometer (r : OdometerFields)
  | dark (nDark : Half)
  | advisory (r : AdvisoryFields)
  | preview (nPrev : Half)
  | preset (position : Word)
  | tableWrite (table : Byte) (start : Half) (values : List Half)
  | tableRead (table copy : Byte) (start count : Half)
  | commit (table : Byte) (expected : Half)
  | sync
  | calibrate
  | start
  | stop
  | relight
  | hold
  | release
  | rerender
  | note (text : List Byte)
  | resetStream
  | resetFull
  deriving DecidableEq, Repr

/-- The rows of spec/opcode_table.json. A `tag` is the host's tag of the command (R172). -/
inductive Instr where
  /-- POWER_ON_RESET (R56). -/
  | powerOnReset
  /-- ACCEPTED_MESSAGE (R174): the bytes that arrive on the uplink, from the sync pair to the CRC. -/
  | acceptedMessage (bytes : List Byte)
  /-- SILENCE (R174). -/
  | silence
  /-- UNKNOWN_COMMAND (R175). -/
  | unknownCommand (tag kind : Byte)
  /-- IDENTIFY (R180). -/
  | identify (tag leaf : Byte)
  /-- STATUS (R181). -/
  | status (tag : Byte)
  /-- SENSOR_RECORD (R35). -/
  | sensorRecord (tag : Byte) (r : SensorFields)
  /-- STRIP_RECORD (R6). -/
  | stripRecord (tag : Byte) (r : StripFields)
  /-- LIGHT_RECORD (R107). -/
  | lightRecord (tag : Byte) (r : LightFields)
  /-- CENTRE_RECORD (R91). -/
  | centreRecord (tag : Byte) (r : CentreFields)
  /-- ODOMETER_RECORD (R17). -/
  | odometerRecord (tag : Byte) (r : OdometerFields)
  /-- DARK_RECORD (R64). -/
  | darkRecord (tag : Byte) (nDark : Half)
  /-- ADVISORY_RECORD (R33). -/
  | advisoryRecord (tag : Byte) (r : AdvisoryFields)
  /-- PREVIEW_RECORD (R154). -/
  | previewRecord (tag : Byte) (nPrev : Half)
  /-- PRESET_POSITION (R19): a signed value. -/
  | presetPosition (tag : Byte) (position : Word)
  /-- TABLE_WRITE (R161). -/
  | tableWrite (tag table : Byte) (start : Half) (values : List Half)
  /-- TABLE_READ (R163). -/
  | tableRead (tag table copy : Byte) (start count : Half)
  /-- COMMIT (R164). -/
  | commit (tag table : Byte) (expected : Half)
  /-- SYNC (R169). -/
  | sync (tag : Byte)
  /-- CALIBRATE (R40). -/
  | calibrate (tag : Byte)
  /-- START (R37). -/
  | start (tag : Byte)
  /-- STOP (R38). -/
  | stop (tag : Byte)
  /-- RELIGHT (R106). -/
  | relight (tag : Byte)
  /-- HOLD (R51). -/
  | hold (tag : Byte)
  /-- RELEASE (R53). -/
  | release (tag : Byte)
  /-- RERENDER (R152). -/
  | rerender (tag : Byte)
  /-- NOTE (R28). -/
  | note (tag : Byte) (text : List Byte)
  /-- RESET_STREAM (R182). -/
  | resetStream (tag : Byte)
  /-- RESET_FULL (R183). -/
  | resetFull (tag : Byte)
  /-- FRAME_TIMER_EXPIRY (R42). -/
  | frameTimerExpiry
  /-- EXPOSURE_MIDPOINT (R46). -/
  | exposureMidpoint
  /-- EXPOSURE_END (R46). -/
  | exposureEnd
  /-- READOUT_COMPLETION (R47): the raw samples the sensor delivered, row by row, top row first. -/
  | readoutCompletion (raw : List (List Sample))
  /-- ROW_COMPLETION (R72). -/
  | rowCompletion
  /-- TRIAL_ROW_COMPLETION (R153). -/
  | trialRowCompletion
  /-- REPLY_TRANSMITTED (R177). -/
  | replyTransmitted
  /-- WALL_REPORT_TRANSMITTED (R148). -/
  | wallReportTransmitted
  /-- MARKER_REPORT_TRANSMITTED (R27). -/
  | markerReportTransmitted
  /-- CONTROL_ITEM_TRANSMITTED (R185). -/
  | controlItemTransmitted
  /-- PREVIEW_TILE_TRANSMITTED (R156). -/
  | previewTileTransmitted
  /-- QUADRATURE_TRANSITION (R15): the levels of lines A and B after the change. -/
  | quadratureTransition (a b : Bool)
  /-- SPEED_WINDOW_EXPIRY (R21). -/
  | speedWindowExpiry
  /-- ROLL_LINE (R24): the digits of an `A` line. -/
  | rollLine (digits : List Byte)
  /-- MARKER_LINE (R26): the code of an `M` line. -/
  | markerLine (code : List Byte)
  /-- Q_LINE (R29). -/
  | qLine
  /-- MALFORMED_LINE (R22): the characters of a line before its LF, and whether the LF has come; without it the characters
  are the beginning of a line that goes on, or that a reset cuts off (log 27). -/
  | malformedLine (part : LinePart)
  /-- PORT_LINE_TRANSMITTED (R23). -/
  | portLineTransmitted
  /-- ADVISORY_REPEAT_EXPIRY (R32). -/
  | advisoryRepeatExpiry
  /-- HEADER_LENGTH_FAULT (R174): the header that arrives after a sync pair. -/
  | headerLengthFault (kind tag : Byte) (length : Half)
  deriving DecidableEq, Repr

end Sys2Proof
end

