-- ==== Sys2Proof/Decode.lean ====
section
/-! DEFINITION. Words that spell a row by the bits of spec/opcode_table.json. No row of the table gives bits (each has an
empty field list): the part has no instruction words. Its commands arrive as messages (Machine/Operands.lean). -/

namespace Sys2Proof

/-- No row of the table gives bits, so no word spells one. -/
def decodeTableWord (_nbits _w : Nat) : Option Instr := none

end Sys2Proof
end

