-- ==== Sys2Proof/Config.lean ====
section
/-! DEFINITION. What is fixed in one part and what the spec leaves open: the sizes of the part, its revision code and
serial number, and the free values. -/

namespace Sys2Proof

/-- Slots of the row store (R142). -/
abbrev Config.storeSlots : Nat := 1024
/-- Row entries the store admits (R142). -/
abbrev Config.rowLimit : Nat := 1008
/-- Rows of the coverage window (R122). -/
abbrev Config.ringRows : Nat := 4096
/-- Commands that wait in the command queue (R176). -/
abbrev Config.commandSlots : Nat := 4
/-- Reply places (R177). -/
abbrev Config.replyPlaces : Nat := 8
/-- Refusals the refusal list holds (R176). -/
abbrev Config.refusalSlots : Nat := 8192
/-- Items of the control queue (R185). -/
abbrev Config.controlSlots : Nat := 32
/-- Lines of the crawler port's response queue (R23). -/
abbrev Config.responseSlots : Nat := 4
/-- Characters of a crawler-port line the part keeps: a line of so many is malformed already, 41 before its CR (R22). -/
abbrev Config.lineChars : Nat := 42
/-- The longest payload of a message (R172). -/
abbrev Config.maxPayload : Nat := 4096
/-- PROFILE knots, SHADE nodes and COLUMN entries (R159). -/
abbrev Config.profileEntries : Nat := 65
abbrev Config.shadeEntries : Nat := 544
abbrev Config.columnEntries : Nat := 1600
/-- Where a 16-bit count of the part stops (R16, R22, R23, R43, R66, R156). -/
abbrev Config.max16 : Nat := 65535
/-- Where a 32-bit count of the part stops (R146, R174). -/
abbrev Config.max32 : Nat := 4294967295
/-- The bounds of position X (00_scope.md, Odometer tick; R15). -/
abbrev Config.xMin : Int := -1073741824
abbrev Config.xMax : Int := 1073741823

/-- The revision code, fixed in each part (R180 leaf 1). A free value: log 12. -/
opaque Config.revision : Half

/-- The serial number, fixed in each part (R180 leaf 3). A free value: log 12. -/
opaque Config.serial : BitVec 64

/-- FREE VALUE (log 10): how many samples an abandoned calibration readout had delivered (R62 keeps them in the sums).
The argument numbers the abandonments. -/
opaque Config.deliveredSamples : Nat → Nat

/-- FREE VALUE (log 10): the raw samples an abandoned calibration readout had delivered, by place in readout order. -/
opaque Config.deliveredRaw : Nat → Nat → Sample

end Sys2Proof
end

