-- ==== Sys2Proof/Machine/State.lean ====
section
/-! DEFINITION. The state of the part, block by block (00_scope.md, Block overview), as plain data, and the state right
after power-on reset. Each field's docstring names the rule that gives it; INVENTORY.md lists them all. -/

namespace Sys2Proof.Machine

/-! ## Names of the manual -/

/-- The operating states (R34). -/
inductive OpState where
  | unconfigured | idle | calibrating | streaming | stopping
  deriving DecidableEq, Repr

/-- The direction of a frame (R12). -/
inductive Direction where
  | forward | reverse | stopped
  deriving DecidableEq, Repr

/-- The previous direction CVT holds (R12): FORWARD or REVERSE. -/
inductive Travel where
  | forward | reverse
  deriving DecidableEq, Repr

/-- The origin of samples (R35). -/
inductive Source where
  | sensor | pattern
  deriving DecidableEq, Repr

/-- The kind of an exposure (R44). -/
inductive FrameKind where
  | stream | dark | calibration | hold
  deriving DecidableEq, Repr

/-- The numbers of the frame buffers (R48): 0, 1 and 2. -/
inductive BufferId where
  | b0 | b1 | b2
  deriving DecidableEq, Repr

/-- The tables (R159). -/
inductive TableId where
  | profile | shade | column
  deriving DecidableEq, Repr

/-- The advisory levels and terms, GO < SLOW < HOLD (2.9). -/
inductive Advisory where
  | go | slow | hold
  deriving DecidableEq, Repr

/-- The states of the lighting loop (R104). -/
inductive LoopState where
  | dark | seeking | locked
  deriving DecidableEq, Repr

/-- The states of a wall row in the ring (R121). -/
inductive RowState where
  | unseen | soft | firm | gap
  deriving DecidableEq, Repr

/-- The streams of the downlink, in the order of the round robin (R184). -/
inductive DownStream where
  | wall | control | preview
  deriving DecidableEq, Repr

/-! ## FSQ -/

/-- The SENSOR record in force (R35). -/
structure SensorRecord where
  width : Nat
  height : Nat
  period : Nat
  exposure : Nat
  source : Source
  deriving DecidableEq, Repr

/-- The frame record as latched at exposure start (R44), all but the position. -/
structure ExposureRecord where
  frameNumber : Nat
  kind : FrameKind
  width : Nat
  height : Nat
  source : Source
  exposure : Nat
  drives : List Nat
  roll : Nat
  rollStale : Bool
  columnGen : Nat
  deriving DecidableEq, Repr

/-- How far an exposure in flight has come (R46): X is latched at its midpoint. -/
inductive ExposurePhase where
  | beforeMidpoint
  | beforeEnd (position : Int)
  | readout (position : Int)
  deriving DecidableEq, Repr

/-- A frame: the content of one buffer together with its frame record (chapter 3). `samples` are the rows of the window,
top row first, each its columns from the left. -/
structure Frame where
  record : ExposureRecord
  position : Int
  samples : List (List Nat)
  deriving DecidableEq, Repr

/-- A frame buffer and its state (R48). -/
inductive Buffer where
  | free
  | exposing (record : ExposureRecord) (phase : ExposurePhase)
  | ready (frame : Frame)
  | rendering (frame : Frame)
  | held (frame : Frame)
  deriving DecidableEq, Repr

/-- The three frame buffers (R48). -/
structure Buffers where
  b0 : Buffer
  b1 : Buffer
  b2 : Buffer
  deriving DecidableEq, Repr

/-- The Frame Sequencer (chapter 3) with the DARK schedule of chapter 4. -/
structure Fsq where
  /-- R34 -/
  opState : OpState
  /-- The frame timer: stopped, or loaded with this many ms until its expiry (R41). -/
  timer : Option Nat
  /-- R44 step 2 -/
  frameCounter : Nat
  /-- R48 -/
  buffers : Buffers
  /-- The READY buffers, the one whose readout completed first at the head (R49). -/
  readyOrder : List BufferId
  /-- R51 -/
  holdMark : Bool
  /-- R43 -/
  slipCount : Nat
  /-- R38 -/
  discardCount : Nat
  /-- R35 -/
  sensorHeld : Bool
  /-- R35, R36 -/
  sensor : SensorRecord
  /-- R64 -/
  nDark : Nat
  /-- R65 -/
  darkCounter : Nat
  /-- The eight LED sector outputs (R45). -/
  led : List Nat
  /-- The strobe enable pin (00_scope.md, Physical note; R44 step 7). -/
  strobe : Bool
  deriving DecidableEq, Repr

/-! ## BLK -/

/-- The Black Level Unit (chapter 4). -/
structure Blk where
  /-- Q2, R59 -/
  drift : Int
  /-- R63 -/
  calValid : Bool
  /-- R60 -/
  colSums : List Nat
  calFrames : Nat
  calSaturated : Nat
  /-- R66 -/
  darkMeasured : Nat
  lastDark : Int
  deriving DecidableEq, Repr

/-! ## ODO -/

/-- The ODOMETER record in force (R17). -/
structure OdometerRecord where
  sign : Int
  step : Int
  zm : Int
  deriving DecidableEq, Repr

/-- The ADVISORY record in force (R33). -/
structure AdvisoryRecord where
  tResume : Nat
  tSlow : Nat
  tHold : Nat
  deriving DecidableEq, Repr

/-- The marker in the UP slot (R26); `row` is absent when no STRIP record was held. -/
structure Marker where
  code : List Byte
  x : Int
  frameCounter : Nat
  row : Option Int
  deriving DecidableEq, Repr

/-- A line the port transmitter sends (R23): a response, or the advisory line of a level. -/
inductive PortLine where
  | response (text : List Byte)
  | advisory (level : Advisory)
  deriving DecidableEq, Repr

/-- Odometer and Crawler Port (chapter 2). -/
structure Odo where
  /-- R15 -/
  x : Int
  /-- The two quadrature input pins (00_scope.md, Physical note). -/
  lineA : Bool
  lineB : Bool
  /-- The decoder's reference pair (R15). -/
  refA : Bool
  refB : Bool
  /-- R16 -/
  phaseRunning : Nat
  phasePending : Nat
  /-- R21 -/
  speed : Int
  windowSum : Int
  /-- R24; the age is in ms. -/
  roll : Nat
  rollAge : Nat
  rollReceived : Bool
  /-- R26, R27 -/
  up : Option Marker
  /-- R28 -/
  down : Option (List Byte)
  /-- R30, R31, R32 -/
  coverageTerm : Advisory
  storeTerm : Advisory
  level : Advisory
  /-- R23, R32 -/
  advisoryDue : Bool
  /-- R23: the response queue, oldest line first. -/
  responses : List (List Byte)
  /-- R23: the line in transmission. -/
  portTx : Option PortLine
  /-- R22: the characters of a line that has not reached its LF; those past `Config.lineChars` are not kept. -/
  lineBuf : List LineChar
  /-- R22: a reset has cut off the line being received, and its LF has not come (log 27). -/
  lineCut : Bool
  malformed : Nat
  /-- R23 -/
  overrun : Nat
  odometer : OdometerRecord
  advisory : AdvisoryRecord
  deriving DecidableEq, Repr

/-! ## STRIP, held for CVT and GEO -/

/-- The STRIP record in force (1.3). -/
structure StripRecord where
  w : Nat
  b0 : Nat
  b1 : Nat
  p : Nat
  z0 : Int
  mount : Nat
  depth : Nat
  fill : Nat
  deriving DecidableEq, Repr

/-- The STRIP fields and the STRIP-held flag beside them (R9). -/
structure Strip where
  held : Bool
  record : StripRecord
  deriving DecidableEq, Repr

/-! ## BCF -/

/-- The CENTRE record in force (R91). -/
structure CentreRecord where
  cx : Int
  cy : Int
  follow : Bool
  threshold : Nat
  mincount : Nat
  maxoff : Nat
  deriving DecidableEq, Repr

/-- The last scan record (R93, R96, R98). -/
inductive ScanRecord where
  | none
  | off (frameNumber : Nat)
  | updated (frameNumber count : Nat) (mx my : Int)
  | held (frameNumber count : Nat)
  deriving DecidableEq, Repr

/-- The Bore Centre Follower (chapter 6). -/
structure Bcf where
  centre : CentreRecord
  ox : Int
  oy : Int
  lastScan : ScanRecord
  deriving DecidableEq, Repr

/-! ## RWS -/

/-- The row entries' kinds (R142). -/
inductive RowKind where
  | take | retake | trial
  deriving DecidableEq, Repr

/-- The flags of a row (R83, R132, R150). -/
structure RowFlags where
  unsettled : Bool
  saturated : Bool
  late : Bool
  revisit : Bool
  rollStale : Bool
  centreHeld : Bool
  clipped : Bool
  deriving DecidableEq, Repr

/-- A row result (R84), and with its kind and flags a row entry (R134, R150). -/
structure RowEntry where
  kind : RowKind
  row : Int
  frameNumber : Nat
  position : Int
  s : Nat
  direction : Direction
  rollTotal : Nat
  cx : Int
  cy : Int
  profileGen : Nat
  shadeGen : Nat
  columnGen : Nat
  flags : RowFlags
  clipCount : Nat
  satCount : Nat
  w : Nat
  depth : Nat
  pixels : List Nat
  deriving DecidableEq, Repr

/-- A GAP entry (R127, R151). -/
structure GapEntry where
  nFirst : Int
  nLast : Int
  frameNumber : Nat
  direction : Direction
  deriving DecidableEq, Repr

/-- An entry of the row store (R142). -/
inductive Entry where
  | row (e : RowEntry)
  | gap (g : GapEntry)
  deriving DecidableEq, Repr

/-- The kind of the start that made a preview (R156). -/
inductive PreviewKind where
  | render | trial
  deriving DecidableEq, Repr

/-- The preview in the preview queue (R155, R156): its lines of pixels, the tile to be sent next, and whether that tile
is in transmission. -/
structure Preview where
  frameNumber : Nat
  position : Int
  kind : PreviewKind
  wp : Nat
  hp : Nat
  lines : List (List Nat)
  nextTile : Nat
  sending : Bool
  deriving DecidableEq, Repr

/-- The Row Store (chapter 9). -/
structure Rws where
  /-- The entries in the order in which they entered, oldest first (R142). -/
  entries : List Entry
  /-- Whether the oldest entry's report is in transmission, so that it is no longer unsent (R147). -/
  wallSending : Bool
  /-- R149 -/
  seq : Nat
  /-- R146 -/
  lostGapRows : Nat
  /-- R155 -/
  preview : Option Preview
  previewCounter : Nat
  /-- R156 -/
  skipCount : Nat
  /-- R154 -/
  nPrev : Nat
  deriving DecidableEq, Repr

/-! ## GEO -/

/-- One row of a row list (R71): a take row with its strip position, or the meter row. -/
inductive RowItem where
  | take (n : Int) (s : Nat)
  | meter (s : Nat)
  deriving DecidableEq, Repr

/-- One sector's statistics (R80). -/
structure SectorStat where
  count : Nat
  sum : Nat
  saturated : Nat
  deriving DecidableEq, Repr

/-- The render context and the render copies (R69, R70, R88). -/
structure RenderContext where
  frameNumber : Nat
  position : Int
  roll : Nat
  rollStale : Bool
  width : Nat
  height : Nat
  columnGen : Nat
  direction : Direction
  w : Nat
  depth : Nat
  fill : Nat
  b0 : Nat
  b1 : Nat
  rollTotal : Nat
  /-- The centre (cx', cy') and the follower offset in it. -/
  cx : Int
  cy : Int
  ox : Int
  oy : Int
  centreHeld : Bool
  trims : List Nat
  loopState : LoopState
  profile : List Nat
  shade : List Nat
  profileGen : Nat
  shadeGen : Nat
  deriving DecidableEq, Repr

/-- A stream render in flight (R68): its context, its row list, the rows completed and the sector statistics. -/
structure RenderWork where
  buffer : BufferId
  context : RenderContext
  rows : List RowItem
  done : Nat
  stats : List SectorStat
  deriving DecidableEq, Repr

/-- A trial render in flight (R88, R89): its context, its strip rows and the rows stored. -/
structure TrialWork where
  buffer : BufferId
  context : RenderContext
  rows : List Nat
  done : Nat
  deriving DecidableEq, Repr

/-- The state of GEO (R68). -/
inductive Geo where
  | idle
  | render (work : RenderWork)
  | trial (work : TrialWork)
  | trialWait (work : TrialWork) (kept : RowEntry)
  deriving DecidableEq, Repr

/-! ## ILC -/

/-- The LIGHT record in force (R107). -/
structure LightRecord where
  t : Nat
  tol : Nat
  cap : Nat
  start : Nat
  deriving DecidableEq, Repr

/-- One sector of the last update record (R103, R118). -/
structure SectorUpdate where
  count : Nat
  saturated : Nat
  mean : Option Nat
  post : Option Nat
  settled : Bool
  pinnedHigh : Bool
  capped : Bool
  deriving DecidableEq, Repr

/-- The last update record (R118). -/
structure UpdateRecord where
  frameNumber : Nat
  sectors : List SectorUpdate
  deriving DecidableEq, Repr

/-- The Illumination Controller (R101, R102, R103). -/
structure Ilc where
  loop : LoopState
  clean : Nat
  unsettled : Nat
  stale : Nat
  drives : List Nat
  trims : List Nat
  light : LightRecord
  lastUpdate : Option UpdateRecord
  deriving DecidableEq, Repr

/-! ## CVT -/

/-- One entry of the coverage ring (R121). -/
structure RingEntry where
  state : RowState
  revisit : Bool
  deriving DecidableEq, Repr

/-- The frame counts (R137). -/
structure FrameCounts where
  taken : Nat
  retaken : Nat
  rejected : Nat
  late : Nat
  revisit : Nat
  skips : Nat
  gapRows : Nat
  deriving DecidableEq, Repr

/-- The Coverage Tracker (R121). The ring's entry `i` is the one of wall row `wb + i`. -/
structure Cvt where
  ring : List RingEntry
  wb : Int
  span : Option (Int × Int)
  ever : Option (Int × Int)
  xprev : Option Int
  prevDir : Travel
  takeList : List (Int × Nat)
  counts : FrameCounts
  /-- The advance of the render in flight (R13), kept for its frame summary. -/
  advance : Nat
  deriving DecidableEq, Repr

/-! ## TBU -/

/-- One table: its two copies, its generation, and the expected generation of an armed commit (R159, R164). -/
structure TableState where
  active : List Nat
  pending : List Nat
  gen : Nat
  armed : Option Nat
  deriving DecidableEq, Repr

/-- The Table Unit (chapter 10). -/
structure Tbu where
  profile : TableState
  shade : TableState
  column : TableState
  /-- The tag of the parked SYNC (R169). -/
  parked : Option Byte
  deriving DecidableEq, Repr

/-! ## LNK -/

/-- The receiver's state with the partial message (R173). -/
inductive RxState where
  | hunt
  | sync
  /-- The header bytes so far: kind, tag, first length byte. -/
  | header (got : List Byte)
  | payload (kind tag : Byte) (length : Nat) (got : List Byte)
  /-- The message whose CRC is awaited, and its first CRC byte once it has come. -/
  | check (kind tag : Byte) (payload : List Byte) (crcLow : Option Byte)
  deriving DecidableEq, Repr

/-- The reply codes (R178). -/
inductive ReplyCode where
  | ok | clamped | bad | state | busy | stale | unknown
  deriving DecidableEq, Repr

/-- A reply, or a refusal of the refusal list (R176, R178). -/
structure Reply where
  tag : Byte
  code : ReplyCode
  payload : List Byte
  refusal : Bool
  deriving DecidableEq, Repr

/-- The cause of a slip (R42). -/
inductive SlipCause where
  | sensorBusy | noBuffer
  deriving DecidableEq, Repr

/-- The cause of a CAL_ABORTED (R62). -/
inductive AbortCause where
  | stop | reset
  deriving DecidableEq, Repr

/-- The point of application of a commit (R167). -/
inductive CommitPoint where
  | atOnce
  | renderStart (frameNumber : Nat)
  | exposureStart (frameNumber : Nat)
  deriving DecidableEq, Repr

/-- The events (R187). -/
inductive Event where
  | frameSlip (slips : Nat) (cause : SlipCause) (frameCounter : Nat)
  | calDone (gen width height least greatest saturated : Nat)
  | calAborted (cause : AbortCause) (frames : Nat)
  | heldReady (frameNumber : Nat)
  | trialDone (frameNumber stored profileGen shadeGen : Nat)
  | commitApplied (table : TableId) (gen : Nat) (point : CommitPoint)
  | commitCancelled (table : TableId) (expected found : Nat)
  | phaseError (pending running : Nat)
  | gapLost (nFirst nLast : Int) (frameNumber : Nat) (direction : Direction) (lostRows : Nat)
  | stopped (discards lastFrame : Nat) (holdDropped : Bool)
  deriving DecidableEq, Repr

/-- A frame summary (R186). -/
structure Summary where
  frameNumber : Nat
  position : Int
  direction : Direction
  advance : Nat
  counts : FrameCounts
  meterRow : Bool
  loopState : LoopState
  drives : List Nat
  trims : List Nat
  posts : List (Option Nat)
  advisory : Advisory
  speed : Int
  ox : Int
  oy : Int
  centreHeld : Bool
  roll : Nat
  rollStale : Bool
  profileGen : Nat
  shadeGen : Nat
  columnGen : Nat
  deriving DecidableEq, Repr

/-- An item of the control queue (R185). -/
inductive ControlItem where
  | summary (m : Summary)
  | event (e : Event)
  deriving DecidableEq, Repr

/-- A preview tile being sent (R156). -/
structure Tile where
  frameNumber : Nat
  position : Int
  kind : PreviewKind
  wp : Nat
  hp : Nat
  tile : Nat
  tiles : Nat
  lines : List (List Nat)
  deriving DecidableEq, Repr

/-- A message in transmission on the downlink (R184): the copy LNK sends. -/
inductive Outgoing where
  | reply (r : Reply)
  | wall (seq : Nat) (e : Entry)
  | marker (m : Marker)
  | control (i : ControlItem)
  | tile (t : Tile)
  deriving DecidableEq, Repr

/-- A command that waits in the command queue, with its tag (R176). -/
structure Waiting where
  tag : Byte
  command : Command
  deriving DecidableEq, Repr

/-- The Tether Link Unit (chapter 11). -/
structure Lnk where
  rx : RxState
  cmdQueue : List Waiting
  /-- Replies and refusals not yet sent, in the order they were made (R176, R184). -/
  replies : List Reply
  controlQueue : List ControlItem
  pointer : DownStream
  tx : Option Outgoing
  accepted : Nat
  crcFaults : Nat
  lengthFaults : Nat
  silences : Nat
  overflows : Nat
  summariesDropped : Nat
  eventsDropped : Nat
  deriving DecidableEq, Repr

/-! ## The part -/

/-- Everything the spec gives the part, the steps that wait (`pending`), and the counter of free values (log 11). -/
structure State where
  fsq : Fsq
  blk : Blk
  odo : Odo
  strip : Strip
  bcf : Bcf
  geo : Geo
  ilc : Ilc
  cvt : Cvt
  rws : Rws
  tbu : Tbu
  lnk : Lnk
  /-- How many free values have been used; the model's own field (log 10, log 11). -/
  freeIx : Nat
  /-- The steps that wait, first in first out. -/
  pending : List Instr
  deriving DecidableEq, Repr

/-- Why the machine stops: never. The spec gives every step of the part an effect in every state (INVENTORY.md, Faults),
so no constructor is needed and no step raises a fault. -/
inductive Fault where
  deriving DecidableEq, Repr

/-- Why a step has no meaning. -/
inductive Refusal where
  /-- Raised by exec's arm of a row that has no meaning yet, and by nothing else. Safe: the model stops there. -/
  | notModelled (mnemonic : String)
  deriving DecidableEq, Repr

/-! ## Power-on reset, block by block -/

/-- R36, R44, R51, R56, R64, R65. -/
def Fsq.reset : Fsq where
  opState := .unconfigured
  timer := none
  frameCounter := 0
  buffers := ⟨.free, .free, .free⟩
  readyOrder := []
  holdMark := false
  slipCount := 0
  discardCount := 0
  sensorHeld := false
  sensor := ⟨0, 0, 0, 0, .sensor⟩
  nDark := 0
  darkCounter := 0
  led := List.replicate 8 0
  strobe := false

/-- R59, R61, R63, R66. -/
def Blk.reset : Blk where
  drift := 0
  calValid := false
  colSums := List.replicate Config.columnEntries 0
  calFrames := 0
  calSaturated := 0
  darkMeasured := 0
  lastDark := 0

/-- 2.10, with the levels on the lines as the reference (R15). R32 sets the advisory-due mark; the transmitter is idle,
so it starts the `V H` line at once and clears the mark (R23; log 8). `lineCut` says whether the reset cut off a line that
was being received (R22). -/
def Odo.reset (lineA lineB lineCut : Bool) : Odo where
  x := 0
  lineA := lineA
  lineB := lineB
  refA := lineA
  refB := lineB
  phaseRunning := 0
  phasePending := 0
  speed := 0
  windowSum := 0
  roll := 0
  rollAge := 0
  rollReceived := false
  up := none
  down := none
  coverageTerm := .go
  storeTerm := .go
  level := .hold
  advisoryDue := false
  responses := []
  portTx := some (.advisory .hold)
  lineBuf := []
  lineCut := lineCut
  malformed := 0
  overrun := 0
  odometer := ⟨1, 0, 0⟩
  advisory := ⟨256, 512, 768⟩

/-- R9. -/
def Strip.reset : Strip := ⟨false, ⟨0, 0, 0, 0, 0, 0, 12, 0⟩⟩

/-- R91, R99. -/
def Bcf.reset : Bcf := ⟨⟨0, 0, false, 0, 1, 0⟩, 0, 0, .none⟩

/-- 7.8. -/
def Ilc.reset : Ilc where
  loop := .dark
  clean := 0
  unsettled := 0
  stale := 0
  drives := List.replicate 8 0
  trims := List.replicate 8 4096
  light := ⟨2048, 64, 4096, 256⟩
  lastUpdate := none

/-- No row of the frame counted yet (R137); also what a reset leaves (log 29). -/
def FrameCounts.zero : FrameCounts := ⟨0, 0, 0, 0, 0, 0, 0⟩

/-- R139: the ring all UNSEEN, the spans empty, the previous position unset. R139 discards the frame counts and names no
value for them: they are 0, the model's choice (log 29). -/
def Cvt.reset : Cvt where
  ring := List.replicate Config.ringRows ⟨.unseen, false⟩
  wb := 0
  span := none
  ever := none
  xprev := none
  prevDir := .forward
  takeList := []
  counts := FrameCounts.zero
  advance := 0

/-- R157. -/
def Rws.reset : Rws := ⟨[], false, 0, 0, none, 0, 0, 0⟩

/-- A table of `n` entries after power-on reset (R159). -/
def TableState.reset (n : Nat) : TableState := ⟨List.replicate n 0, List.replicate n 0, 0, none⟩

/-- R159, R170. -/
def Tbu.reset : Tbu where
  profile := TableState.reset Config.profileEntries
  shade := TableState.reset Config.shadeEntries
  column := TableState.reset Config.columnEntries
  parked := none

/-- R188. -/
def Lnk.reset : Lnk where
  rx := .hunt
  cmdQueue := []
  replies := []
  controlQueue := []
  pointer := .wall
  tx := none
  accepted := 0
  crcFaults := 0
  lengthFaults := 0
  silences := 0
  overflows := 0
  summariesDropped := 0
  eventsDropped := 0

/-- Every block at its power-on reset values, with the levels now on the quadrature lines, the steps that wait and the
count of free values kept: they are outside the part. `lineCut`: the reset cut off a line on the crawler port (R22). -/
def State.powerOn (lineA lineB lineCut : Bool) (freeIx : Nat) (pending : List Instr) : State where
  fsq := Fsq.reset
  blk := Blk.reset
  odo := Odo.reset lineA lineB lineCut
  strip := Strip.reset
  bcf := Bcf.reset
  geo := .idle
  ilc := Ilc.reset
  cvt := Cvt.reset
  rws := Rws.reset
  tbu := Tbu.reset
  lnk := Lnk.reset
  freeIx := freeIx
  pending := pending

/-- The part right after power-on reset; both quadrature lines low (log 1), no line cut off (log 27), nothing pending. -/
def State.reset : State := State.powerOn false false false 0 []

end Sys2Proof.Machine
end

