-- ==== Sys2Proof/Machine/Flags.lean ====
section
/-! DEFINITION. The flags of a row (05 R83), the marks, and the numbers by which the tether names states, kinds, codes and
flags (11 R178, R187, R189). -/

namespace Sys2Proof.Machine

/-- A flag as a number. -/
def bit (b : Bool) : Nat := if b then 1 else 0

/-- R83: the row has more than W/64 saturated pixels. -/
def saturatedFlag (w satCount : Nat) : Bool := decide (w / 64 < satCount)

/-- R83: the row has more than W/8 clipped pixels. -/
def clippedFlag (w clipCount : Nat) : Bool := decide (w / 8 < clipCount)

/-- The flags field of a ROW report (R189). -/
def RowFlags.code (f : RowFlags) : Nat :=
  bit f.unsettled + 2 * bit f.saturated + 4 * bit f.late + 8 * bit f.revisit + 16 * bit f.rollStale
    + 32 * bit f.centreHeld + 64 * bit f.clipped

/-- The marks field of a SUMMARY report (R189). -/
def Summary.marks (m : Summary) : Nat :=
  bit m.centreHeld + 2 * bit m.rollStale + 4 * bit m.meterRow

def OpState.code : OpState → Nat
  | .unconfigured => 0 | .idle => 1 | .calibrating => 2 | .streaming => 3 | .stopping => 4

def Direction.code : Direction → Nat
  | .forward => 0 | .reverse => 1 | .stopped => 2

def Travel.code : Travel → Nat
  | .forward => 0 | .reverse => 1

/-- The direction a previous direction stands for (R12). -/
def Travel.direction : Travel → Direction
  | .forward => .forward | .reverse => .reverse

def Source.code : Source → Nat
  | .sensor => 0 | .pattern => 1

def FrameKind.code : FrameKind → Nat
  | .stream => 0 | .dark => 1 | .calibration => 2 | .hold => 3

def Buffer.code : Buffer → Nat
  | .free => 0 | .exposing _ _ => 1 | .ready _ => 2 | .rendering _ => 3 | .held _ => 4

def Geo.code : Geo → Nat
  | .idle => 0 | .render _ => 1 | .trial _ => 2 | .trialWait _ _ => 3

def ScanRecord.code : ScanRecord → Nat
  | .none => 0 | .off _ => 1 | .updated _ _ _ _ => 2 | .held _ _ => 3

def LoopState.code : LoopState → Nat
  | .dark => 0 | .seeking => 1 | .locked => 2

def Advisory.code : Advisory → Nat
  | .go => 0 | .slow => 1 | .hold => 2

def TableId.code : TableId → Nat
  | .profile => 1 | .shade => 2 | .column => 3

def RowKind.code : RowKind → Nat
  | .take => 1 | .retake => 2 | .trial => 3

def PreviewKind.code : PreviewKind → Nat
  | .render => 0 | .trial => 1

def SlipCause.code : SlipCause → Nat
  | .sensorBusy => 0 | .noBuffer => 1

def AbortCause.code : AbortCause → Nat
  | .stop => 0 | .reset => 1

def CommitPoint.code : CommitPoint → Nat
  | .atOnce => 0 | .renderStart _ => 1 | .exposureStart _ => 2

/-- The frame number COMMIT_APPLIED carries; absent, sent as 0, for AT_ONCE (R187, R189). -/
def CommitPoint.frame : CommitPoint → Nat
  | .atOnce => 0 | .renderStart f => f | .exposureStart f => f

/-- The kind byte of a reply (R178). -/
def ReplyCode.code : ReplyCode → Nat
  | .ok => 0xF0 | .clamped => 0xF1 | .bad => 0xF2 | .state => 0xF3 | .busy => 0xF4 | .stale => 0xF5 | .unknown => 0xF6

/-- The event codes (R187). -/
def Event.code : Event → Nat
  | .frameSlip _ _ _ => 1
  | .calDone _ _ _ _ _ _ => 2
  | .calAborted _ _ => 3
  | .heldReady _ => 4
  | .trialDone _ _ _ _ => 5
  | .commitApplied _ _ _ => 6
  | .commitCancelled _ _ _ => 7
  | .phaseError _ _ => 8
  | .gapLost _ _ _ _ _ => 9
  | .stopped _ _ _ => 10

/-- The table a byte names (R189). -/
def tableOf (b : Byte) : Option TableId :=
  if b = 1 then some .profile else if b = 2 then some .shade else if b = 3 then some .column else none

end Sys2Proof.Machine
end

