-- ==== Sys2Proof/Machine/Operands.lean ====
section
/-! DEFINITION. The forms in which operands reach the part: the byte order of the tether (11 R172), the payload layouts
of the commands (11 R175, R179, R189) and the text lines of the crawler port (02 R22). -/

namespace Sys2Proof.Machine

/-- `k` bytes of an unsigned quantity, least significant byte first (R172). -/
def leBytes : Nat → Nat → List Byte
  | 0, _ => []
  | k + 1, v => BitVec.ofNat 8 v :: leBytes k (v / 256)

/-- `k` bytes of a signed quantity in two's complement (R172). -/
def leInt (k : Nat) (v : Int) : List Byte :=
  leBytes k (v % (256 ^ k : Nat)).toNat

/-- A two-byte field from its bytes, least significant first (R172). -/
def half (lo hi : Byte) : Half := hi ++ lo

/-- A four-byte field from its bytes, least significant first (R172). -/
def word (b0 b1 b2 b3 : Byte) : Word := b3 ++ b2 ++ b1 ++ b0

/-- The values of a TABLE WRITE, two bytes each; none when a byte is left over (R175). -/
def halves : List Byte → Option (List Half)
  | [] => some []
  | [_] => none
  | lo :: hi :: rest => (halves rest).map (half lo hi :: ·)

/-- The payload of a SET: the record code, then the fields in the layout of R189. -/
def parseRecord : List Byte → Command
  | [1, w0, w1, h0, h1, p0, p1, e0, e1, src] =>
    .sensor ⟨half w0 w1, half h0 h1, half p0 p1, half e0 e1, src⟩
  | [2, w0, w1, a0, a1, b0, b1, p, d, z0, z1, z2, z3, m0, m1, f0, f1] =>
    .strip ⟨half w0 w1, half a0 a1, half b0 b1, p, d, word z0 z1 z2 z3, half m0 m1, half f0 f1⟩
  | [3, t0, t1, o0, o1, c0, c1, s0, s1] =>
    .light ⟨half t0 t1, half o0 o1, half c0 c1, half s0 s1⟩
  | [4, x0, x1, y0, y1, f, _, t0, t1, n0, n1, m0, m1] =>
    .centre ⟨half x0 x1, half y0 y1, f, half t0 t1, half n0 n1, half m0 m1⟩
  | [5, s, _, t0, t1, z0, z1, z2, z3] => .odometer ⟨s, half t0 t1, word z0 z1 z2 z3⟩
  | [6, n0, n1] => .dark (half n0 n1)
  | [7, r0, r1, s0, s1, h0, h1] => .advisory ⟨half r0 r1, half s0 s1, half h0 h1⟩
  | [8, n0, n1] => .preview (half n0 n1)
  | _ => .malformed

/-- The payload of a TABLE WRITE: 6 to 2052 bytes, even (R175, R189). -/
def parseTableWrite : List Byte → Command
  | table :: _ :: s0 :: s1 :: values =>
    match halves values with
    | some vs => if 1 ≤ vs.length ∧ vs.length ≤ 1024 then .tableWrite table (half s0 s1) vs else .malformed
    | none => .malformed
  | _ => .malformed

/-- A command with an empty payload (R189). -/
def parseEmpty (c : Command) : List Byte → Command
  | [] => c
  | _ => .malformed

/-- The payload of a RESET: one byte, 0 STREAM or 1 FULL; any other value is BAD (R182). -/
def parseReset : List Byte → Command
  | [0] => .resetStream
  | [1] => .resetFull
  | _ => .malformed

/-- A NOTE allows 1 to 32 bytes (R175). -/
def parseNote (text : List Byte) : Command :=
  if 1 ≤ text.length ∧ text.length ≤ 32 then .note text else .malformed

/-- Steps 1 and 2 of R175: the command that a message's kind and payload spell, by the layouts of R189. -/
def parseCommand (kind : Byte) (payload : List Byte) : Command :=
  match kind.toNat with
  | 0x01 => match payload with | [leaf] => .identify leaf | _ => .malformed
  | 0x02 => parseEmpty .status payload
  | 0x03 => parseRecord payload
  | 0x04 => match payload with | [b0, b1, b2, b3] => .preset (word b0 b1 b2 b3) | _ => .malformed
  | 0x05 => parseTableWrite payload
  | 0x06 =>
    match payload with
    | [table, copy, s0, s1, c0, c1] => .tableRead table copy (half s0 s1) (half c0 c1)
    | _ => .malformed
  | 0x07 => match payload with | [table, _, g0, g1] => .commit table (half g0 g1) | _ => .malformed
  | 0x08 => parseEmpty .sync payload
  | 0x09 => parseEmpty .calibrate payload
  | 0x0A => parseEmpty .start payload
  | 0x0B => parseEmpty .stop payload
  | 0x0C => parseEmpty .relight payload
  | 0x0D => parseEmpty .hold payload
  | 0x0E => parseEmpty .release payload
  | 0x0F => parseEmpty .rerender payload
  | 0x10 => parseNote payload
  | 0x11 => parseReset payload
  | _ => .unknown kind

/-- What a line of the crawler port is (the incoming forms of 2.5). -/
inductive LineForm where
  | roll (value : Nat)
  | marker (code : List Byte)
  | query
  | malformed
  deriving DecidableEq, Repr

/-- 0x20 to 0x7E (R22). -/
def printable (b : Byte) : Bool := 0x20 ≤ b.toNat && b.toNat ≤ 0x7E

/-- 0x21 to 0x7E, a character of a marker code (2.5). -/
def visible (b : Byte) : Bool := 0x21 ≤ b.toNat && b.toNat ≤ 0x7E

/-- A decimal digit. -/
def isDigit (b : Byte) : Bool := 0x30 ≤ b.toNat && b.toNat ≤ 0x39

/-- The value of a string of decimal digits; leading zeros are accepted (R22). -/
def decimalValue (digits : List Byte) : Nat :=
  digits.foldl (fun v d => 10 * v + (d.toNat - 0x30)) 0

/-- `A` space, 1 to 4 decimal digits, value 0 to 4095 (2.5, R22). -/
def rollForm (digits : List Byte) : LineForm :=
  if 1 ≤ digits.length ∧ digits.length ≤ 4 ∧ digits.all isDigit ∧ decimalValue digits ≤ 4095 then
    .roll (decimalValue digits)
  else .malformed

/-- `M` space, 1 to 8 characters from 0x21 to 0x7E (2.5). -/
def markerForm (code : List Byte) : LineForm :=
  if 1 ≤ code.length ∧ code.length ≤ 8 ∧ code.all visible then .marker code else .malformed

/-- The three incoming forms, matched exactly (R22). -/
def lineForm : List Byte → LineForm
  | [c] => if c = 0x51 then .query else .malformed
  | c :: sp :: rest =>
    if sp ≠ 0x20 then .malformed
    else if c = 0x41 then rollForm rest
    else if c = 0x4D then markerForm rest
    else .malformed
  | [] => .malformed

/-- The examination of a line at its LF (R22): `chars` are the characters before the LF, the closing CR the last. A 0x0A that
arrived with a framing error is not that LF: it stands among `chars` and makes the line malformed, as any character with a
framing error does. R22 does not say so: the model's choice, log 31. -/
def classifyLine (chars : List LineChar) : LineForm :=
  match chars.getLast? with
  | none => .malformed
  | some last =>
    let body := chars.dropLast
    if last.framingError || last.byte ≠ 0x0D || 40 < body.length
        || body.any (fun c => c.framingError || !printable c.byte) then .malformed
    else lineForm (body.map (·.byte))

/-- The characters of a line received without a framing error, its CR behind it. -/
def cleanLine (text : List Byte) : List LineChar :=
  (text ++ [0x0D]).map (fun b => ⟨b, false⟩)

/-- The `A` line with these digits. -/
def rollText (digits : List Byte) : List Byte := 0x41 :: 0x20 :: digits

/-- The `M` line with this code. -/
def markerText (code : List Byte) : List Byte := 0x4D :: 0x20 :: code

end Sys2Proof.Machine
end

