-- ==== Sys2Proof/Machine/Ops.lean ====
section
/-! DEFINITION. The arithmetic the chapters share (00_scope.md, Conventions) and the named operations over the state that
more than one chapter uses: the frame buffers, raising events, replies, the advisory level, position, the cap rule, and
the two transmitters (downlink arbiter and crawler port) that act at the end of every step (log 7, log 8). -/

namespace Sys2Proof.Machine

/-! ## Arithmetic -/

/-- A count that grows by one and stays at `limit` once it gets there. -/
def satSucc (limit n : Nat) : Nat := min (n + 1) limit

/-- clamp(v, lo, hi) of the Conventions, on signed values. -/
def clampInt (v lo hi : Int) : Int := if v < lo then lo else if hi < v then hi else v

/-- clamp(v, lo, hi) of the Conventions, on counts. -/
def clampNat (v lo hi : Nat) : Nat := if v < lo then lo else if hi < v then hi else v

/-- A list brought to `n` items: cut, or filled up with `d`. -/
def padTo (d : α) : Nat → List α → List α
  | 0, _ => []
  | n + 1, [] => d :: padTo d n []
  | n + 1, x :: xs => x :: padTo d n xs

/-! ## Frame buffers (R48) -/

def Buffers.get (b : Buffers) : BufferId → Buffer
  | .b0 => b.b0 | .b1 => b.b1 | .b2 => b.b2

def Buffers.set (b : Buffers) (i : BufferId) (v : Buffer) : Buffers :=
  match i with
  | .b0 => { b with b0 := v } | .b1 => { b with b1 := v } | .b2 => { b with b2 := v }

/-- The buffers by number, lowest first. -/
def Buffers.all (b : Buffers) : List Buffer := [b.b0, b.b1, b.b2]

/-- The lowest-numbered buffer for which `f` answers, with the answer. -/
def Buffers.find (b : Buffers) (f : Buffer → Option α) : Option (BufferId × α) :=
  match f b.b0 with
  | some x => some (.b0, x)
  | none =>
    match f b.b1 with
    | some x => some (.b1, x)
    | none =>
      match f b.b2 with
      | some x => some (.b2, x)
      | none => none

def Buffer.free? : Buffer → Option Unit
  | .free => some () | .exposing _ _ => none | .ready _ => none | .rendering _ => none | .held _ => none

def Buffer.exposing? : Buffer → Option (ExposureRecord × ExposurePhase)
  | .exposing r p => some (r, p) | .free => none | .ready _ => none | .rendering _ => none | .held _ => none

def Buffer.ready? : Buffer → Option Frame
  | .ready f => some f | .free => none | .exposing _ _ => none | .rendering _ => none | .held _ => none

def Buffer.rendering? : Buffer → Option Frame
  | .rendering f => some f | .free => none | .exposing _ _ => none | .ready _ => none | .held _ => none

def Buffer.held? : Buffer → Option Frame
  | .held f => some f | .free => none | .exposing _ _ => none | .ready _ => none | .rendering _ => none

/-- The lowest-numbered FREE buffer (R42). -/
def Buffers.freeBuffer (b : Buffers) : Option BufferId := (b.find Buffer.free?).map (·.1)

/-- The exposure in flight: its buffer, record and phase. -/
def Buffers.exposure (b : Buffers) : Option (BufferId × ExposureRecord × ExposurePhase) := b.find Buffer.exposing?

/-- The HELD buffer and its frame. -/
def Buffers.heldFrame (b : Buffers) : Option (BufferId × Frame) := b.find Buffer.held?

/-- Whether a buffer is EXPOSING. -/
def Buffers.anyExposing (b : Buffers) : Bool := b.all.any (fun x => x.exposing?.isSome)

/-- Whether a buffer is RENDERING. -/
def Buffers.anyRendering (b : Buffers) : Bool := b.all.any (fun x => x.rendering?.isSome)

/-- Whether a buffer is HELD. -/
def Buffers.anyHeld (b : Buffers) : Bool := b.all.any (fun x => x.held?.isSome)

/-- How many buffers satisfy a test. -/
def Buffers.count (b : Buffers) (f : Buffer → Bool) : Nat := (b.all.filter f).length

/-- Whether the exposure in flight is a HOLD exposure (R52). -/
def Buffers.holdInFlight (b : Buffers) : Bool :=
  match b.exposure with
  | some (_, r, _) => r.kind == .hold
  | none => false

/-- The LED sectors all dark. -/
def darkRing : List Nat := List.replicate 8 0

/-! ## Raising events and summaries (R185) -/

def ControlItem.isSummary : ControlItem → Bool
  | .summary _ => true
  | .event _ => false

/-- The queue without its oldest summary. -/
def dropOldestSummary : List ControlItem → List ControlItem
  | [] => []
  | i :: rest => if i.isSummary then rest else i :: dropOldestSummary rest

/-- An item is raised into the control queue (R185). -/
def Lnk.raise (l : Lnk) (i : ControlItem) : Lnk :=
  if l.controlQueue.length < Config.controlSlots then { l with controlQueue := l.controlQueue ++ [i] }
  else if i.isSummary then { l with summariesDropped := satSucc Config.max32 l.summariesDropped }
  else if l.controlQueue.any ControlItem.isSummary then
    { l with
      controlQueue := dropOldestSummary l.controlQueue ++ [i]
      summariesDropped := satSucc Config.max32 l.summariesDropped }
  else { l with eventsDropped := satSucc Config.max32 l.eventsDropped }

def raise (i : ControlItem) (s : State) : State := { s with lnk := s.lnk.raise i }

def raiseEvent (e : Event) (s : State) : State := raise (.event e) s

/-! ## Replies (R176, R177, R178) -/

/-- A reply is put into the reply queue. -/
def Lnk.putReply (l : Lnk) (r : Reply) : Lnk := { l with replies := l.replies ++ [r] }

def putReply (r : Reply) (s : State) : State := { s with lnk := s.lnk.putReply r }

def Outgoing.isPlacedReply : Outgoing → Bool
  | .reply r => !r.refusal
  | .wall _ _ => false
  | .marker _ => false
  | .control _ => false
  | .tile _ => false

/-- Reply places in use: a reply waiting, a reply in transmission, a parked SYNC (R177). -/
def placesUsed (s : State) : Nat :=
  (s.lnk.replies.filter (fun r => !r.refusal)).length
    + bit (s.lnk.tx.any Outgoing.isPlacedReply) + bit s.tbu.parked.isSome

/-- Refusals waiting in the refusal list (R176). -/
def refusalsWaiting (s : State) : Nat := (s.lnk.replies.filter (fun r => r.refusal)).length

/-- What a command's owning rule answers (R178). -/
structure Answer where
  code : ReplyCode
  payload : List Byte
  deriving DecidableEq, Repr

/-- OK with a result, or with an empty payload (R178). -/
def Answer.okWith (payload : List Byte) : Answer := ⟨.ok, payload⟩
def Answer.ok : Answer := ⟨.ok, []⟩
def Answer.bad : Answer := ⟨.bad, []⟩
def Answer.busy : Answer := ⟨.busy, []⟩

/-- A STATE reply with its reason: 0 none, 1 NO_STRIP, 2 NO_PROFILE, 3 NO_CAL (R178). -/
def Answer.state (reason : Nat) : Answer := ⟨.state, leBytes 1 reason⟩

/-- CLAMPED when a field was changed, OK otherwise. -/
def Answer.okOrClamped (changed : Bool) : Answer := ⟨if changed then .clamped else .ok, []⟩

/-! ## The store's fill and the advisory (R30 to R32, R142) -/

def Entry.isRow : Entry → Bool
  | .row _ => true
  | .gap _ => false

/-- The fill: occupied slots of every kind (R142). -/
def Rws.fill (r : Rws) : Nat := r.entries.length

/-- The row count: row entries in the store (R142). -/
def Rws.rowCount (r : Rws) : Nat := (r.entries.filter Entry.isRow).length

/-- The number of GAP entries in the store (R149). -/
def Rws.gapCount (r : Rws) : Nat := (r.entries.filter (fun e => !e.isRow)).length

/-- The higher of two levels, GO < SLOW < HOLD. -/
def Advisory.max (a b : Advisory) : Advisory := if a.code ≤ b.code then b else a

/-- R31. -/
def storeTermAfter (r : AdvisoryRecord) (fill : Nat) (term : Advisory) : Advisory :=
  if r.tHold ≤ fill then .hold
  else if r.tSlow ≤ fill then .slow
  else if fill < r.tResume then .go
  else term

/-- R30, with the advance and the band ticks. -/
def coverageTermAfter (advance bandTicks : Nat) (term : Advisory) : Advisory :=
  if 3 * bandTicks / 4 < advance then .slow
  else if advance ≤ bandTicks / 2 then .go
  else term

/-- The level R32 forms in an operating state. -/
def Odo.formedLevel (o : Odo) (op : OpState) : Advisory :=
  if op = .streaming then o.coverageTerm.max o.storeTerm else .hold

/-- The level is re-formed; a value different from the one it had sets the advisory-due mark (R32). -/
def Odo.reformLevel (o : Odo) (op : OpState) : Odo :=
  if o.formedLevel op = o.level then o else { o with level := o.formedLevel op, advisoryDue := true }

def reformLevel (s : State) : State := { s with odo := s.odo.reformLevel s.fsq.opState }

/-- The store term is updated from the fill, and the level re-formed (R31, R32). -/
def Odo.fillChanged (o : Odo) (fill : Nat) (op : OpState) : Odo :=
  ({ o with storeTerm := storeTermAfter o.advisory fill o.storeTerm }).reformLevel op

def fillChanged (s : State) : State := { s with odo := s.odo.fillChanged s.rws.fill s.fsq.opState }

/-- The coverage term is updated, and the level re-formed (R30, R32). -/
def Odo.coverageChanged (o : Odo) (advance bandTicks : Nat) (op : OpState) : Odo :=
  ({ o with coverageTerm := coverageTermAfter advance bandTicks o.coverageTerm }).reformLevel op

/-! ## Position (R15, R18, R21) -/

/-- X moves by `d`, held within its bounds; the speed window sums what X actually moved. -/
def Odo.move (o : Odo) (d : Int) : Odo :=
  let x := clampInt (o.x + d) Config.xMin Config.xMax
  { o with x := x, windowSum := o.windowSum + (x - o.x) }

/-! ## The cap rule (R114) -/

/-- When the drives sum above the cap, each drive D becomes floor(D × C / S). -/
def capRule (cap : Nat) (drives : List Nat) : List Nat :=
  if cap < drives.sum then drives.map (fun d => d * cap / drives.sum) else drives

/-! ## The downlink arbiter (R184, R185, R147, R156) -/

/-- The stream whose turn comes after this one. -/
def DownStream.next : DownStream → DownStream
  | .wall => .control
  | .control => .preview
  | .preview => .wall

/-- Whether a stream has a message on offer while nothing is in transmission. -/
def offers (s : State) : DownStream → Bool
  | .wall => !s.rws.wallSending && !s.rws.entries.isEmpty
  | .control => s.odo.up.isSome || !s.lnk.controlQueue.isEmpty
  | .preview => s.rws.preview.isSome

/-- The first stream with something on offer, from the round-robin pointer on. -/
def turn (s : State) : Option DownStream :=
  if offers s s.lnk.pointer then some s.lnk.pointer
  else if offers s s.lnk.pointer.next then some s.lnk.pointer.next
  else if offers s s.lnk.pointer.next.next then some s.lnk.pointer.next.next
  else none

/-- Lines in tile `k` of a preview of `hp` lines: 8, or what is left in the last tile (R155). -/
def tileLines (lines : List (List Nat)) (k : Nat) : List (List Nat) := (lines.drop (8 * k)).take 8

/-- ceiling(Hp / 8) tiles (R155). -/
def tileCount (hp : Nat) : Nat := (hp + 7) / 8

/-- The tile a preview offers next (R156). -/
def Preview.tile (p : Preview) : Tile where
  frameNumber := p.frameNumber
  position := p.position
  kind := p.kind
  wp := p.wp
  hp := p.hp
  tile := p.nextTile
  tiles := tileCount p.hp
  lines := tileLines p.lines p.nextTile

/-- A stream's message starts: the pointer moves to the stream after it (R184). The wall stream sends the oldest entry
with the sequence number in force (R147); the control stream its marker before its queue (R185); the preview stream its
next tile (R156). -/
def startStream (d : DownStream) (s : State) : State :=
  match d with
  | .wall =>
    match s.rws.entries with
    | [] => s
    | e :: _ =>
      { s with
        rws := { s.rws with wallSending := true, seq := (s.rws.seq + 1) % 65536 }
        lnk := { s.lnk with tx := some (.wall s.rws.seq e), pointer := .control } }
  | .control =>
    match s.odo.up with
    | some m => { s with lnk := { s.lnk with tx := some (.marker m), pointer := .preview } }
    | none =>
      match s.lnk.controlQueue with
      | [] => s
      | i :: rest =>
        { s with lnk := { s.lnk with tx := some (.control i), controlQueue := rest, pointer := .preview } }
  | .preview =>
    match s.rws.preview with
    | none => s
    | some p =>
      { s with
        rws := { s.rws with preview := some { p with sending := true } }
        lnk := { s.lnk with tx := some (.tile p.tile), pointer := .wall } }

/-- The arbiter's choice when the downlink is free (R184): the oldest reply or refusal, else the streams in turn. -/
def arbitrate (s : State) : State :=
  if s.lnk.tx.isSome then s
  else
    match s.lnk.replies with
    | r :: rest => { s with lnk := { s.lnk with replies := rest, tx := some (.reply r) } }
    | [] =>
      match turn s with
      | some d => startStream d s
      | none => s

/-! ## The crawler port's transmitter (R23) -/

/-- The transmitter starts its next line: the advisory line of the level in force if the mark is set, except when the
line that has just finished was an advisory line and a response waits; otherwise the oldest response. -/
def Odo.portNext (o : Odo) (afterAdvisory : Bool) : Odo :=
  if o.advisoryDue && !(afterAdvisory && !o.responses.isEmpty) then
    { o with portTx := some (.advisory o.level), advisoryDue := false }
  else
    match o.responses with
    | r :: rest => { o with portTx := some (.response r), responses := rest }
    | [] => { o with portTx := none }

/-- An idle transmitter starts a line as soon as it has one. -/
def Odo.portKick (o : Odo) : Odo := if o.portTx.isSome then o else o.portNext false

/-- The end of every step: the downlink's arbiter and the port's transmitter start what is on offer (log 7, log 8). -/
def settle (s : State) : State :=
  { arbitrate s with odo := (arbitrate s).odo.portKick }

end Sys2Proof.Machine
end

