-- ==== Sys2Proof/Machine/Tables.lean ====
section
/-! DEFINITION. Tables and Commits (chapter 10). -/

namespace Sys2Proof.Machine

/-- The generation after this one; 65535 is followed by 1 (R160). -/
def nextGen (gen : Nat) : Nat := if gen = 65535 then 1 else gen + 1

def Tbu.get (t : Tbu) : TableId → TableState
  | .profile => t.profile | .shade => t.shade | .column => t.column

def Tbu.set (t : Tbu) (i : TableId) (v : TableState) : Tbu :=
  match i with
  | .profile => { t with profile := v } | .shade => { t with shade := v } | .column => { t with column := v }

/-- Entries of a table (R159). -/
def TableId.entries : TableId → Nat
  | .profile => Config.profileEntries | .shade => Config.shadeEntries | .column => Config.columnEntries

/-- The top of a table's entry range (R159). -/
def TableId.top : TableId → Nat
  | .profile => 16383 | .shade => 65535 | .column => 4095

/-- Whether a commit of any table is armed. -/
def Tbu.anyArmed (t : Tbu) : Bool := t.profile.armed.isSome || t.shade.armed.isSome || t.column.armed.isSome

/-- The three generations, as a SYNC's reply carries them (R178). -/
def Tbu.generations (t : Tbu) : List Byte :=
  leBytes 2 t.profile.gen ++ leBytes 2 t.shade.gen ++ leBytes 2 t.column.gen

/-- The parked SYNC is answered at the first moment at which no commit is armed (R169). -/
def answerSync (s : State) : State :=
  match s.tbu.parked with
  | none => s
  | some tag =>
    if s.tbu.anyArmed then s
    else putReply ⟨tag, .ok, s.tbu.generations, false⟩ { s with tbu := { s.tbu with parked := none } }

/-- The table after an application whose second check passes (R167). -/
def TableState.apply (t : TableState) : TableState :=
  { t with active := t.pending, gen := nextGen t.gen, armed := none }

/-- The armed commit of a table, if there is one, is applied or cancelled by its second check (R167). -/
def applyCommit (i : TableId) (point : CommitPoint) (s : State) : State :=
  let t := s.tbu.get i
  match t.armed with
  | none => s
  | some expected =>
    if expected = t.gen then
      answerSync (raiseEvent (.commitApplied i (nextGen t.gen) point) { s with tbu := s.tbu.set i t.apply })
    else
      answerSync (raiseEvent (.commitCancelled i expected t.gen)
        { s with tbu := s.tbu.set i { t with armed := none } })

/-- Outside STREAMING armed PROFILE and SHADE commits are applied at once (R165), and an armed COLUMN commit when no
buffer is EXPOSING (R166). -/
def applyIdleCommits (s : State) : State :=
  if s.fsq.opState = .streaming then s
  else
    let s := applyCommit .shade .atOnce (applyCommit .profile .atOnce s)
    if s.fsq.buffers.anyExposing then s else applyCommit .column .atOnce s

/-- The commits a render start applies: PROFILE, then SHADE (R165). -/
def applyRenderCommits (frameNumber : Nat) (s : State) : State :=
  applyCommit .shade (.renderStart frameNumber) (applyCommit .profile (.renderStart frameNumber) s)

/-- `values` written over `entries` from `start` on. -/
def writeEntries (entries : List Nat) (start : Nat) (values : List Nat) : List Nat :=
  entries.take start ++ values ++ entries.drop (start + values.length)

/-- TABLE WRITE (R161). -/
def cmdTableWrite (table : Byte) (start : Half) (values : List Half) (s : State) : State × Answer :=
  match tableOf table with
  | none => (s, .bad)
  | some i =>
    if values.isEmpty || 1024 < values.length || i.entries < start.toNat + values.length then (s, .bad)
    else
      let t := s.tbu.get i
      let clamped := values.map (fun v => min v.toNat i.top)
      ({ s with tbu := s.tbu.set i { t with pending := writeEntries t.pending start.toNat clamped } },
        .okOrClamped (values.any (fun v => decide (i.top < v.toNat))))

/-- The copy a TABLE READ chooses: 0 ACTIVE, 1 PENDING (R163, R189). -/
def TableState.copyOf (t : TableState) (copy : Byte) : Option (List Nat) :=
  if copy = 0 then some t.active else if copy = 1 then some t.pending else none

/-- The result of a TABLE READ in the layout of R189. -/
def tableReadResult (i : TableId) (t : TableState) (copy : Byte) (entries : List Nat) (start count : Nat) : List Byte :=
  leBytes 1 i.code ++ [copy] ++ leBytes 2 start ++ leBytes 2 count ++ leBytes 2 t.gen
    ++ leBytes 1 (bit t.armed.isSome) ++ leBytes 1 0 ++ leBytes 2 (t.armed.getD 0)
    ++ ((entries.drop start).take count).flatMap (leBytes 2)

/-- TABLE READ (R163). -/
def cmdTableRead (table copy : Byte) (start count : Half) (s : State) : State × Answer :=
  match tableOf table with
  | none => (s, .bad)
  | some i =>
    match (s.tbu.get i).copyOf copy with
    | none => (s, .bad)
    | some entries =>
      if count.toNat = 0 ∨ 1024 < count.toNat ∨ i.entries < start.toNat + count.toNat then (s, .bad)
      else (s, .okWith (tableReadResult i (s.tbu.get i) copy entries start.toNat count.toNat))

/-- COMMIT (R164); a commit whose application point has been reached is applied before the reply (R165, R166). -/
def cmdCommit (table : Byte) (expected : Half) (s : State) : State × Answer :=
  match tableOf table with
  | none => (s, .bad)
  | some i =>
    let t := s.tbu.get i
    if t.armed.isSome then (s, .busy)
    else if expected.toNat ≠ t.gen then (s, ⟨.stale, leBytes 2 t.gen⟩)
    else (applyIdleCommits { s with tbu := s.tbu.set i { t with armed := some expected.toNat } }, .ok)

/-- SYNC (R169): answered, or parked with no answer yet. -/
def cmdSync (tag : Byte) (s : State) : State × Option Answer :=
  if s.tbu.parked.isSome then (s, some .busy)
  else if s.tbu.anyArmed then ({ s with tbu := { s.tbu with parked := some tag } }, none)
  else (s, some (.okWith s.tbu.generations))

end Sys2Proof.Machine
end

