-- ==== Sys2Proof/Machine/Dark.lean ====
section
/-! DEFINITION. Dark Calibration (chapter 4), and the pattern source (03 R54). -/

namespace Sys2Proof.Machine

/-! ## Samples of a readout -/

/-- The sample of the pattern source at a column and a row of the window (R54). -/
def patternSample (x y frameNumber : Nat) : Nat := (x + y + frameNumber) % 4094

/-- The raw samples of a readout, row by row: those the sensor delivered, or the pattern's (R46, R54). A place the
operand does not list reads as 0 (log 9). -/
def rawSamples (r : ExposureRecord) (raw : List (List Sample)) : List (List Nat) :=
  match r.source with
  | .sensor => (padTo [] r.height raw).map (fun row => (padTo 0 r.width row).map BitVec.toNat)
  | .pattern =>
    (List.range r.height).map fun y => (List.range r.width).map fun x => patternSample x y r.frameNumber

/-- The stored value of a raw sample (R57). -/
def correctSample (drift : Int) (colofs r : Nat) : Nat :=
  if r = 4095 then 4095
  else (clampInt ((r : Int) - ((colofs : Int) + drift + 2) / 4) 0 4094).toNat

/-- The samples written to the buffer: corrected in SENSOR mode, as they are in PATTERN mode (R57, R54). -/
def storedSamples (r : ExposureRecord) (column : List Nat) (drift : Int) (raw : List (List Nat)) : List (List Nat) :=
  match r.source with
  | .sensor => raw.map (fun row => List.zipWith (correctSample drift) column row)
  | .pattern => raw

/-! ## Long calibration (R60 to R62) -/

/-- A row's samples added to the sums of their columns; the sums of other columns stay. -/
def addRow : List Nat → List Nat → List Nat
  | [], _ => []
  | s :: sums, [] => s :: sums
  | s :: sums, r :: row => (s + r) :: addRow sums row

/-- The saturated samples of a readout. -/
def saturatedCount (rows : List (List Nat)) : Nat := (rows.map (fun row => (row.filter (· = 4095)).length)).sum

/-- The raw samples of a CALIBRATION exposure enter the sums (R60): all of them at its readout completion, and none before, so
that a STATUS in mid-readout reports the counts of the readouts completed. The model's choice, log 28. -/
def Blk.accumulate (b : Blk) (rows : List (List Nat)) : Blk :=
  { b with
    colSums := rows.foldl addRow b.colSums
    calSaturated := b.calSaturated + saturatedCount rows }

/-- CALIBRATE empties the accumulators (R60). -/
def Blk.emptyAccumulators (b : Blk) : Blk :=
  { b with colSums := List.replicate Config.columnEntries 0, calFrames := 0, calSaturated := 0 }

/-- The column offset of a column sum over 16 frames of `height` rows (R61 step 1). -/
def columnOffset (height sum : Nat) : Nat := min ((4 * sum + 8 * height) / (16 * height)) 4095

/-- The offsets a long calibration of a window writes (R61). -/
def Blk.offsets (b : Blk) (width height : Nat) : List Nat := (b.colSums.take width).map (columnOffset height)

/-- The sixteenth calibration readout (R61 steps 1 to 6). -/
def completeCalibration (r : ExposureRecord) (s : State) : State :=
  let offsets := s.blk.offsets r.width r.height
  let column := s.tbu.column
  let gen := nextGen column.gen
  raiseEvent (.calDone gen r.width r.height (offsets.foldl min 4095) (offsets.foldl max 0) s.blk.calSaturated)
    { s with
      tbu := { s.tbu with
        column := { column with active := offsets ++ column.active.drop offsets.length, gen := gen } }
      blk := { s.blk with drift := 0, calValid := true } }

/-- FREE VALUE (log 10): the rows an abandoned calibration readout had delivered, the first so many samples of the window
in readout order: row by row, top row first (R46), and within a row from column 0 on, of which R46 says nothing: the model's
choice, log 10. -/
def deliveredRows (ix : Nat) (r : ExposureRecord) : List (List Nat) :=
  let k := min (Config.deliveredSamples ix) (r.width * r.height - 1)
  (List.range r.height).map fun y =>
    (List.range r.width).filterMap fun x =>
      if y * r.width + x < k then
        some (match r.source with
          | .sensor => (Config.deliveredRaw ix (y * r.width + x)).toNat
          | .pattern => patternSample x y r.frameNumber)
      else none

/-- An abandoned CALIBRATION exposure: the samples it has delivered remain in the sums (R62). Nothing is delivered before
its readout begins. -/
def keepDelivered (s : State) : State :=
  match s.fsq.buffers.exposure with
  | some (_, r, .readout _) =>
    if r.kind = .calibration then
      { s with blk := s.blk.accumulate (deliveredRows s.freeIx r), freeIx := s.freeIx + 1 }
    else s
  | some (_, _, .beforeMidpoint) => s
  | some (_, _, .beforeEnd _) => s
  | none => s

/-! ## Short calibration (R64 to R67) -/

/-- The clamped N_dark (R64). -/
def darkInterval (n : Nat) : Nat := if n = 0 then 0 else clampNat n 16 4096

/-- The DARK record (R64). -/
def cmdDark (nDark : Half) (s : State) : State × Answer :=
  if s.fsq.opState = .unconfigured then (s, .state 0)
  else
    ({ s with fsq := { s.fsq with nDark := darkInterval nDark.toNat } },
      .okOrClamped (decide (darkInterval nDark.toNat ≠ nDark.toNat)))

/-- A dark frame is due (R65). -/
def Fsq.darkDue (f : Fsq) : Bool := decide (f.nDark ≠ 0 ∧ f.nDark ≤ f.darkCounter)

/-- 4 × r − colofs[x] for every unsaturated sample of a row (R66). -/
def darkTerms (column row : List Nat) : List Int :=
  ((column.zip row).filter (fun p => p.2 < 4095)).map (fun p => 4 * (p.2 : Int) - (p.1 : Int))

/-- The measurement d, none when every sample was saturated (R66). -/
def darkMeasure (column : List Nat) (rows : List (List Nat)) : Option Int :=
  let terms := rows.flatMap (darkTerms column)
  if terms.length = 0 then none
  else some ((terms.sum + ((terms.length / 2 : Nat) : Int)) / (terms.length : Int))

/-- The drift after a measurement (R67). -/
def driftAfter (drift d : Int) : Int := clampInt (drift + (d - drift + 4) / 8) (-1024) 1024

/-- A DARK frame's readout is measured (R66, R67). -/
def Blk.measureDark (b : Blk) (column : List Nat) (rows : List (List Nat)) : Blk :=
  match darkMeasure column rows with
  | none => b
  | some d =>
    { b with
      lastDark := d
      darkMeasured := satSucc Config.max16 b.darkMeasured
      drift := driftAfter b.drift d }

end Sys2Proof.Machine
end

