-- ==== Sys2Proof/Machine/Light.lean ====
section
/-! DEFINITION. Illumination Control (chapter 7): the starting drives, the LIGHT record and the update at render
completion. -/

namespace Sys2Proof.Machine

/-- The drives START and RELIGHT set: the starting drive, scaled when the sum exceeds the cap (R105, R106, R114). -/
def LightRecord.startDrives (r : LightRecord) : List Nat := capRule r.cap (List.replicate 8 r.start)

/-- What START does to ILC (R105). -/
def Ilc.atStart (i : Ilc) : Ilc :=
  { i with
    drives := i.light.startDrives
    trims := List.replicate 8 4096
    loop := .seeking
    clean := 0
    unsettled := 0
    stale := 0
    lastUpdate := none }

/-- What RELIGHT does to ILC, with the number of stale frames (R106). -/
def Ilc.relight (i : Ilc) (stale : Nat) : Ilc := { i.atStart with stale := stale }

/-- The loop enters DARK when the operating state leaves STREAMING (R104). -/
def Ilc.goDark (i : Ilc) : Ilc := { i with loop := .dark, clean := 0, unsettled := 0, stale := 0 }

/-- A STREAM exposure in flight, a READY frame or the frame RENDERING: a frame still to complete rendering (R106). -/
def Buffer.pendingStream : Buffer → Bool
  | .free => false
  | .exposing r _ => r.kind == .stream
  | .ready _ => true
  | .rendering _ => true
  | .held _ => false

/-- RELIGHT (R106). -/
def cmdRelight (s : State) : State × Answer :=
  if s.fsq.opState ≠ .streaming then (s, .state 0)
  else ({ s with ilc := s.ilc.relight (s.fsq.buffers.count Buffer.pendingStream) }, .ok)

/-- The clamped fields of a LIGHT record (R107). -/
def lightRecordOf (r : LightFields) : LightRecord where
  t := clampNat r.t.toNat 256 3840
  tol := clampNat r.tol.toNat 8 512
  cap := clampNat r.cap.toNat 128 8184
  start := clampNat r.start.toNat 16 1023

/-- The LIGHT record (R107): a cap below the sum rescales the drives, and the LED outputs of an exposure in flight, before
the reply (R109, R45). -/
def cmdLight (r : LightFields) (s : State) : State × Answer :=
  if s.fsq.opState = .unconfigured then (s, .state 0)
  else
    let n := lightRecordOf r
    ({ s with
        ilc := { s.ilc with light := n, drives := capRule n.cap s.ilc.drives }
        fsq := { s.fsq with led := capRule n.cap s.fsq.led } },
      .okOrClamped (decide (n ≠ ⟨r.t.toNat, r.tol.toNat, r.cap.toNat, r.start.toNat⟩)))

/-! ## The update (R110 to R118) -/

/-- The mean pre-trim value of a sector with count above 0 (R111). -/
def sectorMean (st : SectorStat) : Nat := max 1 ((st.sum + st.count / 2) / st.count)

/-- The post mean, with the trim the render used (R111). -/
def postMean (mean trim : Nat) : Nat := (mean * trim + 2048) / 4096

/-- |post − T| ≤ tol (R111). -/
def isSettled (r : LightRecord) (post : Nat) : Bool := decide (post ≤ r.t + r.tol ∧ r.t ≤ post + r.tol)

/-- The measurement of one sector (R111); the marks pinned-high and capped come later. -/
def measureSector (r : LightRecord) (st : SectorStat) (trim : Nat) : SectorUpdate :=
  if st.count = 0 then ⟨0, st.saturated, none, none, true, false, false⟩
  else
    let m := sectorMean st
    let post := postMean m trim
    ⟨st.count, st.saturated, some m, some post, isSettled r post, false, false⟩

/-- More than one pixel in 64 touched a saturated sample (R112). -/
def saturatedSector (u : SectorUpdate) : Bool := decide (u.count < u.saturated * 64)

/-- The raw quotient floor(D × T / m) (R112). -/
def rawQuotient (t drive mean : Nat) : Nat := drive * t / mean

/-- The drive target of a sector whose mean is `m` (R112). -/
def driveTarget (t : Nat) (u : SectorUpdate) (m drive : Nat) : Nat :=
  if saturatedSector u then drive / 2
  else clampNat (clampNat (rawQuotient t drive m) (drive / 2) (2 * drive)) 16 1023

/-- Pinned-high: an unsaturated sector whose raw quotient is above 1023 (R112). -/
def pinnedHigh (t : Nat) (u : SectorUpdate) (drive : Nat) : Bool :=
  match u.mean with
  | none => false
  | some m => !saturatedSector u && decide (1023 < rawQuotient t drive m)

/-- A quarter of the way from `cur` toward `target`, truncated toward zero, and one when that is zero and they differ
(R113, R116). -/
def quarterStep (cur target : Nat) : Nat :=
  if cur < target then cur + max 1 ((target - cur) / 4)
  else if target < cur then cur - max 1 ((cur - target) / 4)
  else cur

/-- The drive after its step (R113); a sector with count 0 keeps its drive. -/
def steppedDrive (t : Nat) (u : SectorUpdate) (drive : Nat) : Nat :=
  match u.mean with
  | none => drive
  | some m => quarterStep drive (driveTarget t u m drive)

/-- The trim target of a sector whose mean is `m` (R115). -/
def trimTarget (t : Nat) (u : SectorUpdate) (m : Nat) : Nat :=
  if (u.pinnedHigh || u.capped) && decide (m < t) then clampNat (t * 4096 / m) 4096 16383 else 4096

/-- The trim after its step (R116); a sector with count 0 keeps its trim. -/
def steppedTrim (t : Nat) (u : SectorUpdate) (trim : Nat) : Nat :=
  match u.mean with
  | none => trim
  | some m => quarterStep trim (trimTarget t u m)

/-- The loop state and the counts after an update (R117). -/
def Ilc.countLock (i : Ilc) (clean : Bool) : Ilc :=
  match i.loop, clean with
  | .seeking, true =>
    if 3 ≤ i.clean + 1 then { i with loop := .locked, clean := 0, unsettled := 0 } else { i with clean := i.clean + 1 }
  | .seeking, false => { i with clean := 0 }
  | .locked, true => { i with unsettled := 0 }
  | .locked, false =>
    if 2 ≤ i.unsettled + 1 then { i with loop := .seeking, clean := 0, unsettled := 0 }
    else { i with unsettled := i.unsettled + 1 }
  | .dark, _ => i

/-- The measurement and the pinned-high mark of every sector, with the drives ILC holds (R111, R112). -/
def measureSectors (r : LightRecord) (stats : List SectorStat) (latchedTrims drives : List Nat) : List SectorUpdate :=
  List.zipWith (fun u d => { u with pinnedHigh := pinnedHigh r.t u d })
    (List.zipWith (measureSector r) stats latchedTrims) drives

/-- The capped mark: the cap stage lowered the sector's drive (R114). -/
def markCapped (us : List SectorUpdate) (before after : List Nat) : List SectorUpdate :=
  List.zipWith (fun u (p : Nat × Nat) => { u with capped := decide (p.2 < p.1) }) us (before.zip after)

/-- One update (R111 to R118), from a render's statistics and the trims it latched. -/
def Ilc.update (i : Ilc) (frameNumber : Nat) (stats : List SectorStat) (latchedTrims : List Nat) : Ilc :=
  let measured := measureSectors i.light stats latchedTrims i.drives
  let stepped := List.zipWith (steppedDrive i.light.t) measured i.drives
  let capped := capRule i.light.cap stepped
  let marked := markCapped measured stepped capped
  ({ i with
      drives := capped
      trims := List.zipWith (steppedTrim i.light.t) marked i.trims
      lastUpdate := some ⟨frameNumber, marked⟩ }).countLock (marked.all (·.settled))

/-- What ILC does on a render's statistics (R110), and the post means the summary reports: those of this update, or all
absent when none is made. -/
def Ilc.onStatistics (i : Ilc) (frameNumber : Nat) (stats : List SectorStat) (latchedTrims : List Nat) :
    Ilc × List (Option Nat) :=
  if i.loop = .dark then (i, List.replicate 8 none)
  else if 0 < i.stale then ({ i with stale := i.stale - 1 }, List.replicate 8 none)
  else
    (i.update frameNumber stats latchedTrims,
      (measureSectors i.light stats latchedTrims i.drives).map (·.post))

end Sys2Proof.Machine
end

