-- ==== Sys2Proof/Machine/Capture.lean ====
section
/-! DEFINITION. Frame Capture (chapter 3): operating states, the SENSOR record, exposures, HOLD and RELEASE. -/

namespace Sys2Proof.Machine

/-! ## Operating state (R34) -/

/-- A change of operating state as the other blocks see it: outside STREAMING the loop is DARK (R104), the level is
re-formed (R32), and armed commits are applied (R165, R166). -/
def setOpState (op : OpState) (s : State) : State :=
  let s : State :=
    { s with
      fsq := { s.fsq with opState := op }
      ilc := if op = .streaming then s.ilc else s.ilc.goDark }
  applyIdleCommits (reformLevel s)

/-! ## The SENSOR record (R35) -/

def sourceOf (b : Byte) : Option Source := if b = 0 then some .sensor else if b = 1 then some .pattern else none

/-- A window size in range: 64 to 1600, a multiple of 16 (R35). -/
def windowOk (n : Nat) : Bool := decide (64 ≤ n ∧ n ≤ 1600 ∧ n % 16 = 0)

/-- The SENSOR record (R35). -/
def cmdSensor (r : SensorFields) (s : State) : State × Answer :=
  if s.fsq.opState ≠ .unconfigured ∧ s.fsq.opState ≠ .idle then (s, .state 0)
  else
    match sourceOf r.source with
    | none => (s, .bad)
    | some source =>
      let resized := r.width.toNat ≠ s.fsq.sensor.width ∨ r.height.toNat ≠ s.fsq.sensor.height
      if !windowOk r.width.toNat || !windowOk r.height.toNat then (s, .bad)
      else if s.fsq.buffers.holdInFlight || (decide resized && s.fsq.buffers.anyHeld) then (s, .busy)
      else
        let period := clampNat r.period.toNat 20 1000
        let exposure := clampNat r.exposure.toNat 50 10000
        let s' : State :=
          { s with
            fsq := { s.fsq with
              sensorHeld := true
              sensor := ⟨r.width.toNat, r.height.toNat, period, exposure, source⟩ }
            blk := { s.blk with
              calValid := if resized ∨ s.fsq.sensorHeld = false then false else s.blk.calValid } }
        (if s.fsq.opState = .unconfigured then setOpState .idle s' else s',
          .okOrClamped (decide (period ≠ r.period.toNat ∨ exposure ≠ r.exposure.toNat)))

/-! ## Exposures (R42 to R46) -/

/-- The roll is marked stale: never received, or older than 1000 ms (R25). -/
def Odo.rollIsStale (o : Odo) : Bool := !o.rollReceived || decide (1000 < o.rollAge)

/-- A STREAM or HOLD exposure is lit with the drives of ILC; a DARK or CALIBRATION exposure is not (R44 step 5). -/
def exposureDrives (kind : FrameKind) (drives : List Nat) : List Nat :=
  match kind with
  | .stream => drives
  | .hold => drives
  | .dark => darkRing
  | .calibration => darkRing

/-- The frame record as the part now stands (R44 steps 2 to 6). -/
def exposureRecord (kind : FrameKind) (s : State) : ExposureRecord where
  frameNumber := s.fsq.frameCounter
  kind := kind
  width := s.fsq.sensor.width
  height := s.fsq.sensor.height
  source := s.fsq.sensor.source
  exposure := s.fsq.sensor.exposure
  drives := exposureDrives kind s.ilc.drives
  roll := s.odo.roll
  rollStale := s.odo.rollIsStale
  columnGen := s.tbu.column.gen

/-- The dark-frame counter at an exposure start (R65). -/
def darkCounterAfter (kind : FrameKind) (n : Nat) : Nat :=
  match kind with
  | .stream => min (n + 1) 4096
  | .dark => 0
  | .calibration => n
  | .hold => n

/-- An exposure starts in a claimed buffer (R44): the synthetic step (R18), the frame counter, an armed COLUMN commit, the
latches, the buffer and the strobe. -/
def startExposure (kind : FrameKind) (i : BufferId) (s : State) : State :=
  let s : State := { s with odo := if s.odo.odometer.step = 0 then s.odo else s.odo.move s.odo.odometer.step }
  let s : State := { s with fsq := { s.fsq with frameCounter := (s.fsq.frameCounter + 1) % 4294967296 } }
  let s := applyCommit .column (.exposureStart s.fsq.frameCounter) s
  let r := exposureRecord kind s
  { s with
    fsq := { s.fsq with
      buffers := s.fsq.buffers.set i (.exposing r .beforeMidpoint)
      darkCounter := darkCounterAfter kind s.fsq.darkCounter
      led := r.drives
      strobe := true } }

/-- A slip (R43). -/
def slip (cause : SlipCause) (s : State) : State :=
  let n := satSucc Config.max16 s.fsq.slipCount
  raiseEvent (.frameSlip n cause s.fsq.frameCounter) { s with fsq := { s.fsq with slipCount := n } }

/-- The kind of the exposure an expiry starts (R42). -/
def expiryKind (s : State) : FrameKind :=
  if s.fsq.opState = .calibrating then .calibration else if s.fsq.darkDue then .dark else .stream

/-- A timer expiry looks at the buffers (R42). -/
def expire (s : State) : State :=
  if s.fsq.buffers.anyExposing then slip .sensorBusy s
  else
    match s.fsq.buffers.freeBuffer with
    | none => slip .noBuffer s
    | some i => startExposure (expiryKind s) i s

/-- The frame timer expires: it is reloaded for one more period (R41), and R42 applies. A stopped timer does not expire
(log 4). -/
def timerExpiry (s : State) : State :=
  match s.fsq.timer with
  | none => s
  | some _ => expire { s with fsq := { s.fsq with timer := some s.fsq.sensor.period } }

/-- The midpoint of the exposure in flight: X is latched (R20, R46). -/
def exposureMidpoint (s : State) : State :=
  match s.fsq.buffers.exposure with
  | some (i, r, .beforeMidpoint) =>
    { s with fsq := { s.fsq with buffers := s.fsq.buffers.set i (.exposing r (.beforeEnd s.odo.x)) } }
  | some (_, _, .beforeEnd _) => s
  | some (_, _, .readout _) => s
  | none => s

/-- The end of the exposure in flight: the LED outputs go dark and readout begins (R46). -/
def exposureEnd (s : State) : State :=
  match s.fsq.buffers.exposure with
  | some (i, r, .beforeEnd x) =>
    { s with
      fsq := { s.fsq with
        buffers := s.fsq.buffers.set i (.exposing r (.readout x)), led := darkRing, strobe := false } }
  | some (_, _, .beforeMidpoint) => s
  | some (_, _, .readout _) => s
  | none => s

/-! ## Stopping (R39) -/

/-- STOPPING ends when no buffer is EXPOSING and none is RENDERING (R39). -/
def stopTest (s : State) : State :=
  if s.fsq.opState = .stopping ∧ !s.fsq.buffers.anyExposing ∧ !s.fsq.buffers.anyRendering then
    raiseEvent (.stopped s.fsq.discardCount s.fsq.frameCounter s.fsq.holdMark)
      (setOpState .idle { s with fsq := { s.fsq with holdMark := false } })
  else s

/-! ## HOLD and RELEASE (R51 to R53) -/

/-- HOLD (R51, R52). -/
def cmdHold (s : State) : State × Answer :=
  let busy := s.fsq.buffers.anyHeld || s.fsq.holdMark || s.fsq.buffers.holdInFlight
  match s.fsq.opState with
  | .unconfigured => (s, .state 0)
  | .calibrating => (s, .state 0)
  | .stopping => (s, .state 0)
  | .streaming =>
    if busy then (s, .busy) else ({ s with fsq := { s.fsq with holdMark := true } }, .ok)
  | .idle =>
    if busy then (s, .busy)
    else
      match s.fsq.buffers.freeBuffer with
      | some i => (startExposure .hold i s, .ok)
      | none => (s, .busy)

/-- Whether a trial render is running or waiting (R152). -/
def Geo.inTrial : Geo → Bool
  | .idle => false
  | .render _ => false
  | .trial _ => true
  | .trialWait _ _ => true

/-- RELEASE (R53). -/
def cmdRelease (s : State) : State × Answer :=
  if s.fsq.opState = .unconfigured then (s, .state 0)
  else
    match s.fsq.buffers.heldFrame with
    | some (i, _) =>
      if s.geo.inTrial then (s, .busy)
      else ({ s with fsq := { s.fsq with buffers := s.fsq.buffers.set i .free } }, .ok)
    | none =>
      if s.fsq.holdMark then ({ s with fsq := { s.fsq with holdMark := false } }, .ok)
      else if s.fsq.buffers.holdInFlight then (s, .busy)
      else (s, .state 0)

/-! ## Abandoning an exposure (R38, R55) -/

/-- EXPOSING becomes FREE; the other states stay. -/
def Buffer.abandonExposure : Buffer → Buffer
  | .exposing _ _ => .free
  | .free => .free
  | .ready f => .ready f
  | .rendering f => .rendering f
  | .held f => .held f

/-- READY becomes FREE; the other states stay. -/
def Buffer.discardReady : Buffer → Buffer
  | .ready _ => .free
  | .free => .free
  | .exposing r p => .exposing r p
  | .rendering f => .rendering f
  | .held f => .held f

def Buffers.map (b : Buffers) (f : Buffer → Buffer) : Buffers := ⟨f b.b0, f b.b1, f b.b2⟩

end Sys2Proof.Machine
end

