-- ==== Sys2Proof/Machine/Coverage.lean ====
section
/-! DEFINITION. Wall Coordinates (chapter 1: direction, band, strip positions) and Coverage Tracking (chapter 8). -/

namespace Sys2Proof.Machine

/-! ## Direction and advance (R12, R13) -/

/-- The frame's direction and the previous direction afterwards (R12). -/
def decideDirection (xf : Int) (xprev : Option Int) (prev : Travel) : Direction × Travel :=
  match xprev with
  | none => (.forward, .forward)
  | some x => if x < xf then (.forward, .forward) else if xf < x then (.reverse, .reverse) else (.stopped, prev)

/-- The advance |X_f − Xprev|, 0 when Xprev is unset (R13). -/
def advanceOf (xf : Int) (xprev : Option Int) : Nat :=
  match xprev with
  | none => 0
  | some x => (xf - x).natAbs

/-! ## The band (R10, R11) -/

/-- n_min: the first wall row of the band, rounded up (R10). -/
def bandMin (r : StripRecord) (xf : Int) : Int := r.b0 + -(-(xf + r.z0) / r.p)

/-- n_max: the last wall row of the band, rounded down (R10). -/
def bandMax (r : StripRecord) (xf : Int) : Int := r.b1 + (xf + r.z0) / r.p

/-- The strip position of wall row `n` (R11). -/
def stripPosition (r : StripRecord) (xf n : Int) : Nat :=
  (((n * r.p - xf - r.z0) * 512 + r.p) / (2 * r.p)).toNat

/-- The band ticks (B1 − B0 + 1) × P (R30). -/
def bandTicks (r : StripRecord) : Nat := (r.b1 + 1 - r.b0) * r.p

/-- The integers from `lo` to `hi`. -/
def rowsFromTo (lo hi : Int) : List Int := (List.range (hi - lo + 1).toNat).map (fun (i : Nat) => lo + (i : Int))

/-! ## The window (R122, R124, R125) -/

/-- Whether an index lies in the coverage window (R122). -/
def Cvt.inWindow (c : Cvt) (n : Int) : Bool := decide (c.wb ≤ n ∧ n ≤ c.wb + 4095)

/-- The ring entry of an index; outside the window a row counts as UNSEEN with its mark clear (R122, R126). -/
def Cvt.entryOf (c : Cvt) (n : Int) : RingEntry :=
  if c.inWindow n then c.ring.getD (n - c.wb).toNat ⟨.unseen, false⟩ else ⟨.unseen, false⟩

/-- Where step 3 of a render start puts the window base (R124). -/
def placedBase (c : Cvt) (nMin nMax : Int) : Int :=
  let wb := if c.span.isNone then nMin - 2048 else c.wb
  let wb := if wb + 4095 < nMax then nMax - 4095 else wb
  if nMin < wb then nMin else wb

/-- Whether an index lies in the ever-explored range (R121). -/
def Cvt.everExplored (c : Cvt) (n : Int) : Bool :=
  match c.ever with
  | none => false
  | some (lo, hi) => decide (lo ≤ n ∧ n ≤ hi)

/-- A row that comes into the window: UNSEEN, with its revisit mark set when the ever-explored range holds it (R125). -/
def Cvt.entering (c : Cvt) (n : Int) : RingEntry := ⟨.unseen, c.everExplored n⟩

/-- The ring after the window base becomes `wb`: rows that leave are forgotten, rows that come in enter (R125). -/
def Cvt.movedRing (c : Cvt) (wb : Int) : List RingEntry :=
  if wb = c.wb then c.ring
  else
    (rowsFromTo wb (wb + 4095)).map fun n => if c.inWindow n then c.entryOf n else c.entering n

/-! ## Gap declaration (R126, R127) -/

/-- Adjacent ranges of an ascending list joined into one, the first range given apart. -/
def joinRanges (cur : Int × Int) : List (Int × Int) → List (Int × Int)
  | [] => [cur]
  | r :: rest => if r.1 = cur.2 + 1 then joinRanges (cur.1, r.2) rest else cur :: joinRanges r rest

/-- A range as a list, none when it is empty. -/
def rangeIfAny (lo hi : Int) : List (Int × Int) := if lo ≤ hi then [(lo, hi)] else []

/-- The maximal runs of UNSEEN rows of one candidate part, ascending, judged by the states before the window moved: a
row outside that window counts as UNSEEN (R126, R127). -/
def Cvt.unseenRuns (c : Cvt) (lo hi : Int) : List (Int × Int) :=
  let inside := ((rowsFromTo (max lo c.wb) (min hi (c.wb + 4095))).filter
    (fun n => (c.entryOf n).state == .unseen)).map (fun n => (n, n))
  match rangeIfAny lo (min hi (c.wb - 1)) ++ inside ++ rangeIfAny (max lo (c.wb + 4096)) hi with
  | [] => []
  | r :: rest => joinRanges r rest

/-- The ranges a render start declares, in travel order (R126, R127). -/
def Cvt.declaredRanges (c : Cvt) (nMin nMax : Int) (travel : Travel) : List (Int × Int) :=
  match c.span with
  | none => []
  | some (fLo, fHi) =>
    let lower := c.unseenRuns fLo (nMin - 1)
    let upper := c.unseenRuns (nMax + 1) fHi
    match travel with
    | .forward => lower ++ upper
    | .reverse => upper.reverse ++ lower.reverse

/-- Whether a range holds an index. -/
def inRanges (ranges : List (Int × Int)) (n : Int) : Bool := ranges.any (fun r => decide (r.1 ≤ n ∧ n ≤ r.2))

/-- The rows of the ranges that lie inside the window take the state GAP; their marks are kept (R127). -/
def markGaps (ring : List RingEntry) (wb : Int) (ranges : List (Int × Int)) : List RingEntry :=
  ring.mapIdx fun i e => if inRanges ranges (wb + (i : Int)) then { e with state := .gap } else e

/-- The number of rows of a range. -/
def rangeRows (r : Int × Int) : Nat := (r.2 - r.1 + 1).toNat

/-! ## Spans and take list (R128, R129) -/

/-- A range extended to take in the band, or the rows an empty band stands beside (R128). -/
def extendRange (range : Option (Int × Int)) (nMin nMax : Int) : Option (Int × Int) :=
  match range with
  | none => if nMin ≤ nMax then some (nMin, nMax) else none
  | some (lo, hi) => some (min lo nMin, max hi nMax)

/-- The explored span clipped into the window (R128). -/
def clipSpan (wb : Int) : Option (Int × Int) → Option (Int × Int)
  | none => none
  | some (lo, hi) => some (max lo wb, min hi (wb + 4095))

/-- The take list: the band rows that are not FIRM, each with its strip position, in travel order (R129). -/
def Cvt.buildTakeList (c : Cvt) (r : StripRecord) (xf : Int) (travel : Travel) : List (Int × Nat) :=
  let rows := ((rowsFromTo (bandMin r xf) (bandMax r xf)).filter
    (fun n => (c.entryOf n).state != .firm)).map (fun n => (n, stripPosition r xf n))
  match travel with
  | .forward => rows
  | .reverse => rows.reverse

/-- What CVT makes of a render start: its state, the frame's direction and the ranges it hands to RWS. -/
structure CoverageStart where
  cvt : Cvt
  direction : Direction
  ranges : List (Int × Int)
  deriving DecidableEq, Repr

/-- The six steps of R123. -/
def Cvt.renderStart (c : Cvt) (r : StripRecord) (xf : Int) : CoverageStart :=
  let d := decideDirection xf c.xprev c.prevDir
  let nMin := bandMin r xf
  let nMax := bandMax r xf
  let wb := placedBase c nMin nMax
  let ranges := c.declaredRanges nMin nMax d.2
  let c' : Cvt :=
    { c with
      xprev := some xf
      prevDir := d.2
      advance := advanceOf xf c.xprev
      ring := markGaps (c.movedRing wb) wb ranges
      wb := wb
      span := clipSpan wb (extendRange c.span nMin nMax)
      ever := extendRange c.ever nMin nMax
      counts := { FrameCounts.zero with gapRows := (ranges.map rangeRows).sum } }
  ⟨{ c' with takeList := c'.buildTakeList r xf d.2 }, d.1, ranges⟩

/-! ## Decisions at row completion (R131 to R133) -/

/-- The ring with the state of an index in the window replaced, its mark kept. -/
def Cvt.setState (c : Cvt) (n : Int) (st : RowState) : Cvt :=
  if c.inWindow n then
    { c with ring := c.ring.set (n - c.wb).toNat { c.entryOf n with state := st } }
  else c

/-- The state a taken row takes (R132). -/
def takenState (f : RowFlags) : RowState := if f.unsettled || f.saturated then .soft else .firm

/-- A take of an UNSEEN or GAP row (R132): the tracker after it and the entry to be stored, if a slot is free. -/
def Cvt.take (c : Cvt) (row : RowEntry) (slotFree : Bool) : Cvt × Option RowEntry :=
  let e := c.entryOf row.row
  if slotFree then
    let late := e.state == .gap
    let c' := c.setState row.row (takenState row.flags)
    ({ c' with
        counts := { c.counts with
          taken := c.counts.taken + 1
          late := c.counts.late + bit late
          revisit := c.counts.revisit + bit e.revisit } },
      some { row with kind := .take, flags := { row.flags with late := late, revisit := e.revisit } })
  else ({ c with counts := { c.counts with skips := c.counts.skips + 1 } }, none)

/-- A retake of a SOFT row (R133). -/
def Cvt.retake (c : Cvt) (row : RowEntry) (slotFree : Bool) : Cvt × Option RowEntry :=
  if !row.flags.unsettled && !row.flags.saturated && slotFree then
    ({ c.setState row.row .firm with counts := { c.counts with retaken := c.counts.retaken + 1 } },
      some { row with kind := .retake })
  else ({ c with counts := { c.counts with rejected := c.counts.rejected + 1 } }, none)

/-- The decision on a take row's result (R131). A FIRM row is in no take list. -/
def Cvt.decide (c : Cvt) (row : RowEntry) (slotFree : Bool) : Cvt × Option RowEntry :=
  match (c.entryOf row.row).state with
  | .unseen => c.take row slotFree
  | .gap => c.take row slotFree
  | .soft => c.retake row slotFree
  | .firm => (c, none)

/-! ## Coverage clear (R139) -/

/-- A coverage clear. -/
def Cvt.clear (c : Cvt) : Cvt :=
  { c with
    ring := Cvt.reset.ring
    wb := 0
    span := none
    ever := none
    xprev := none
    prevDir := .forward
    takeList := [] }

/-! ## The STRIP record (R5 to R9) -/

/-- Whether a structural field of a STRIP record is out of its range (R6 step 1). -/
def stripBad (r : StripFields) : Bool :=
  !(r.w.toNat = 512 || r.w.toNat = 1024 || r.w.toNat = 2048)
    || 511 < r.b0.toNat || 511 < r.b1.toNat || r.b1.toNat < r.b0.toNat
    || r.p.toNat = 0 || 64 < r.p.toNat
    || decide (r.z0.toInt < 0) || decide (65535 < r.z0.toInt)
    || !(r.depth.toNat = 12 || r.depth.toNat = 8)

/-- The record as it comes into force: mount masked, fill clamped (R6 steps 2 and 3). -/
def stripRecordOf (r : StripFields) : StripRecord where
  w := r.w.toNat
  b0 := r.b0.toNat
  b1 := r.b1.toNat
  p := r.p.toNat
  z0 := r.z0.toInt
  mount := r.mount.toNat % 4096
  depth := r.depth.toNat
  fill := min r.fill.toNat 4095

/-- Whether an accepted record clears coverage (R8). -/
def stripClears (old : Strip) (n : StripRecord) : Bool :=
  !old.held || decide (n.p ≠ old.record.p) || decide (n.z0 ≠ old.record.z0)

/-- The STRIP record (R5, R6, R8). -/
def cmdStrip (r : StripFields) (s : State) : State × Answer :=
  if s.fsq.opState ≠ .idle then (s, .state 0)
  else if stripBad r then (s, .bad)
  else
    let n := stripRecordOf r
    ({ s with
        strip := ⟨true, n⟩
        cvt := if stripClears s.strip n then s.cvt.clear else s.cvt },
      .okOrClamped (decide (4095 < r.fill.toNat)))

end Sys2Proof.Machine
end

