-- ==== Sys2Proof/Machine/Odometer.lean ====
section
/-! DEFINITION. Odometer and Crawler Port (chapter 2): quadrature decoding, the ODOMETER and ADVISORY records, the preset,
the speed estimate, and the lines of the crawler port. -/

namespace Sys2Proof.Machine

/-! ## Quadrature decoding (R15, R16) -/

/-- The place of a pair of levels in the forward sequence 00, 10, 11, 01 (A written first). -/
def quadIndex (a b : Bool) : Nat :=
  match a, b with
  | false, false => 0
  | true, false => 1
  | true, true => 2
  | false, true => 3

/-- A change of both lines adds one to both counts (R16). -/
def Odo.phaseError (o : Odo) : Odo :=
  { o with
    phaseRunning := satSucc Config.max16 o.phaseRunning
    phasePending := satSucc Config.max16 o.phasePending }

/-- The lines take the levels (a, b). With a synthetic step in force the decoder ignores them; otherwise the pair is
compared with the reference and becomes the reference (R15). -/
def Odo.transition (o : Odo) (a b : Bool) : Odo :=
  if o.odometer.step ≠ 0 then { o with lineA := a, lineB := b }
  else
    let o' := { o with lineA := a, lineB := b, refA := a, refB := b }
    match (quadIndex a b + 4 - quadIndex o.refA o.refB) % 4 with
    | 0 => o'
    | 1 => o'.move o.odometer.sign
    | 2 => o'.phaseError
    | _ => o'.move (-o.odometer.sign)

/-- At a frame summary, pending phase errors are raised as one event and the pending count returns to 0 (R16). -/
def reportPhaseErrors (s : State) : State :=
  if s.odo.phasePending = 0 then s
  else
    raiseEvent (.phaseError s.odo.phasePending s.odo.phaseRunning)
      { s with odo := { s.odo with phasePending := 0 } }

/-! ## Records and preset -/

/-- The ODOMETER record of R17. A step that returns to 0 makes the levels on the lines the reference (R15). -/
def cmdOdometer (r : OdometerFields) (s : State) : State × Answer :=
  if s.fsq.opState ≠ .idle then (s, .state 0)
  else if r.sign.toInt ≠ 1 ∧ r.sign.toInt ≠ -1 then (s, .bad)
  else
    let step := clampInt r.step.toInt (-1024) 1024
    let zm := clampInt r.zm.toInt 0 65535
    let resumes := s.odo.odometer.step ≠ 0 ∧ step = 0
    ({ s with
        odo := { s.odo with
          odometer := ⟨r.sign.toInt, step, zm⟩
          refA := if resumes then s.odo.lineA else s.odo.refA
          refB := if resumes then s.odo.lineB else s.odo.refB } },
      .okOrClamped (decide (step ≠ r.step.toInt ∨ zm ≠ r.zm.toInt)))

/-- The ADVISORY record of R33; the store term is updated and the level re-formed at once. -/
def cmdAdvisory (r : AdvisoryFields) (s : State) : State × Answer :=
  if s.fsq.opState = .unconfigured then (s, .state 0)
  else if 1 ≤ r.tResume.toNat ∧ r.tResume.toNat < r.tSlow.toNat ∧ r.tSlow.toNat ≤ r.tHold.toNat
      ∧ r.tHold.toNat ≤ 1008 then
    (fillChanged { s with
        odo := { s.odo with advisory := ⟨r.tResume.toNat, r.tSlow.toNat, r.tHold.toNat⟩ } }, .ok)
  else (s, .bad)

/-- PRESET POSITION (R19). -/
def cmdPreset (position : Word) (s : State) : State × Answer :=
  if s.fsq.opState ≠ .idle then (s, .state 0)
  else if position.toInt < Config.xMin ∨ Config.xMax < position.toInt then (s, .bad)
  else ({ s with odo := { s.odo with x := position.toInt } }, .ok)

/-- NOTE (R28). -/
def cmdNote (text : List Byte) (s : State) : State × Answer :=
  if text.isEmpty || 32 < text.length || !text.all printable then (s, .bad)
  else
    match s.odo.down with
    | some _ => (s, .busy)
    | none => ({ s with odo := { s.odo with down := some text } }, .ok)

/-! ## Speed estimate (R21) -/

/-- The end of a 250 ms window. -/
def Odo.closeWindow (o : Odo) : Odo :=
  { o with speed := clampInt o.windowSum (-32768) 32767, windowSum := 0 }

/-! ## Lines of the crawler port (R22 to R29) -/

/-- `K`, `B`, `N`. -/
def textK : List Byte := [0x4B]
def textB : List Byte := [0x42]
def textN : List Byte := [0x4E]

/-- A line is queued behind the responses that wait. -/
def Odo.respond (o : Odo) (line : List Byte) : Odo := { o with responses := o.responses ++ [line] }

/-- The marker row floor((X + Zm) / P), absent when no STRIP record is held (R26). -/
def markerRow (strip : Strip) (o : Odo) : Option Int :=
  if strip.held then some ((o.x + o.odometer.zm) / strip.record.p) else none

/-- An `M` line taken while the response queue has room (R26). -/
def Odo.takeMarker (o : Odo) (strip : Strip) (frameCounter : Nat) (code : List Byte) : Odo :=
  match o.up with
  | none => ({ o with up := some ⟨code, o.x, frameCounter, markerRow strip o⟩ }).respond textK
  | some _ => o.respond textB

/-- A `Q` line taken while the response queue has room (R29). -/
def Odo.takeQuery (o : Odo) : Odo :=
  match o.down with
  | some text => ({ o with down := none }).respond (textN ++ 0x20 :: text)
  | none => o.respond textN

/-- What a line's form does when its LF arrives (R22, R23, R24, R26, R29). -/
def Odo.takeLine (o : Odo) (strip : Strip) (frameCounter : Nat) (form : LineForm) : Odo :=
  match form with
  | .malformed => { o with malformed := satSucc Config.max16 o.malformed }
  | .roll v => { o with roll := v, rollAge := 0, rollReceived := true }
  | .marker code =>
    if Config.responseSlots ≤ o.responses.length then { o with overrun := satSucc Config.max16 o.overrun }
    else o.takeMarker strip frameCounter code
  | .query =>
    if Config.responseSlots ≤ o.responses.length then { o with overrun := satSucc Config.max16 o.overrun }
    else o.takeQuery

/-- The form of the line that ends with these characters: with what the line buffer holds they make a line, which is
examined; the tail of a line cut off by a reset is malformed whatever it spells (R22). -/
def Odo.endedForm (o : Odo) (chars : List LineChar) : LineForm :=
  if o.lineCut then .malformed else classifyLine (o.lineBuf ++ chars)

/-- Characters arrive up to an LF: the line they end is taken, and the next one begins (R22). -/
def receiveLine (chars : List LineChar) (s : State) : State :=
  { s with
    odo := ({ s.odo with lineBuf := [], lineCut := false }).takeLine s.strip s.fsq.frameCounter
      (s.odo.endedForm chars) }

/-- Characters arrive and the LF has not come: they are gathered in the line buffer; those past its end are discarded, for
the line is malformed by then (R22). -/
def gatherLine (chars : List LineChar) (s : State) : State :=
  { s with odo := { s.odo with lineBuf := (s.odo.lineBuf ++ chars).take Config.lineChars } }

/-- The port line in transmission has gone out; the transmitter starts the next one (R23). -/
def Odo.lineSent (o : Odo) : Odo :=
  match o.portTx with
  | none => o
  | some (.response _) => o.portNext false
  | some (.advisory _) => o.portNext true

end Sys2Proof.Machine
end

