-- ==== Sys2Proof/Machine/Centre.lean ====
section
/-! DEFINITION. Bore Centre Following (chapter 6). -/

namespace Sys2Proof.Machine

/-- The value of a frame's buffer at a column and a row of its window. -/
def sampleAt (samples : List (List Nat)) (x y : Nat) : Nat := (samples.getD y []).getD x 0

/-- The follower switch: 0 OFF, 1 ON (R189). -/
def followOf (b : Byte) : Option Bool := if b = 0 then some false else if b = 1 then some true else none

/-- The CENTRE record (R91, R92); a record that changes cx or cy resets the offset. R91 has all its fields signed, so that a
negative value is clamped to the bottom of its field's range; R189 marks cx and cy alone (log 13). -/
def cmdCentre (r : CentreFields) (s : State) : State × Answer :=
  if s.fsq.opState = .unconfigured then (s, .state 0)
  else
    match followOf r.follow with
    | none => (s, .bad)
    | some follow =>
      let cx := clampInt r.cx.toInt 0 (16 * s.fsq.sensor.width - 1)
      let cy := clampInt r.cy.toInt 0 (16 * s.fsq.sensor.height - 1)
      let threshold := clampInt r.threshold.toInt 0 4095
      let mincount := clampInt r.mincount.toInt 1 4096
      let maxoff := clampInt r.maxoff.toInt 0 1024
      let moved := cx ≠ s.bcf.centre.cx ∨ cy ≠ s.bcf.centre.cy
      ({ s with
          bcf := { s.bcf with
            centre := ⟨cx, cy, follow, threshold.toNat, mincount.toNat, maxoff.toNat⟩
            ox := if moved then 0 else s.bcf.ox
            oy := if moved then 0 else s.bcf.oy } },
        .okOrClamped (decide (cx ≠ r.cx.toInt ∨ cy ≠ r.cy.toInt ∨ threshold ≠ r.threshold.toInt
          ∨ mincount ≠ r.mincount.toInt ∨ maxoff ≠ r.maxoff.toInt)))

/-- The current centre (R94). -/
def Bcf.currentX (b : Bcf) : Int := b.centre.cx + b.ox
def Bcf.currentY (b : Bcf) : Int := b.centre.cy + b.oy

/-- The 64 places of the grid along one axis around a centre in 1/16 px, those inside a window of `size` pixels (R94). -/
def gridPlaces (centre : Int) (size : Nat) : List Nat :=
  (List.range 64).filterMap fun (i : Nat) =>
    let p := centre / 16 - 128 + 4 * (i : Int)
    if 0 ≤ p ∧ p ≤ (size : Int) - 1 then some p.toNat else none

/-- Below the threshold and not saturated (R95). -/
def isDark (threshold v : Nat) : Bool := decide (v < threshold) && decide (v ≠ 4095)

/-- The places of the dark samples of the scan, as (column, row) (R94, R95). -/
def darkPlaces (b : Bcf) (f : Frame) : List (Nat × Nat) :=
  (gridPlaces b.currentY f.record.height).flatMap fun y =>
    ((gridPlaces b.currentX f.record.width).filter fun x =>
      isDark b.centre.threshold (sampleAt f.samples x y)).map fun x => (x, y)

/-- The centroid in 1/16 px of `count` places with the sum `sum` (R96). -/
def centroid (sum count : Nat) : Int := ((16 * sum + count / 2) / count : Nat)

/-- One component of the new offset (R97). -/
def newOffset (off m cur : Int) (maxoff : Nat) : Int :=
  clampInt (off + (m - cur + 4) / 8) (-(maxoff : Int)) maxoff

/-- BCF's action at a render start (R93): the follower after it, and the CENTRE_HELD mark. -/
def Bcf.scan (b : Bcf) (f : Frame) : Bcf × Bool :=
  if !b.centre.follow then ({ b with lastScan := .off f.record.frameNumber }, false)
  else
    let dark := darkPlaces b f
    if b.centre.mincount ≤ dark.length then
      let mx := centroid (dark.map (·.1)).sum dark.length
      let my := centroid (dark.map (·.2)).sum dark.length
      ({ b with
          ox := newOffset b.ox mx b.currentX b.centre.maxoff
          oy := newOffset b.oy my b.currentY b.centre.maxoff
          lastScan := .updated f.record.frameNumber dark.length mx my }, false)
    else ({ b with lastScan := .held f.record.frameNumber dark.length }, true)

/-- The resets of the offset and the last scan record (R99). -/
def Bcf.resetOffset (b : Bcf) : Bcf := { b with ox := 0, oy := 0, lastScan := .none }

end Sys2Proof.Machine
end

