-- ==== Sys2Proof/Machine/Resample.lean ====
section
/-! DEFINITION. Polar Resampling (chapter 5): the arithmetic of one output pixel, a row, and the sector statistics. -/

namespace Sys2Proof.Machine

/-- The first stage: the sensor angle of column `c` (R73). -/
def sensorAngle (w rollTotal c : Nat) : Nat := (c * (4096 / w) + rollTotal) % 4096

/-- The second stage: the radius at strip position `s`, in 1/16 px (R74). -/
def radius (profile : List Nat) (s : Nat) : Int :=
  let j := s / 2048
  let f := s % 2048
  let lo : Int := profile.getD j 0
  let hi : Int := profile.getD (j + 1) 0
  lo + ((hi - lo) * (f : Int) + 1024) / 2048

/-- The third stage: sin a, in 1/16384 (R75). -/
def sinOf (a : Nat) : Int :=
  let i := a % 1024
  match a / 1024 with
  | 0 => sineEntry i
  | 1 => sineEntry (1024 - i)
  | 2 => -(sineEntry i : Int)
  | _ => -(sineEntry (1024 - i) : Int)

/-- cos a is the sine of (a + 1024) mod 4096 (R75). -/
def cosOf (a : Nat) : Int := sinOf ((a + 1024) % 4096)

/-- The fourth stage: the source point (R76). -/
def sourceX (cx rho : Int) (a : Nat) : Int := cx + (rho * sinOf a + 8192) / 16384
def sourceY (cy rho : Int) (a : Nat) : Int := cy - (rho * cosOf a + 8192) / 16384

/-- The fifth stage: the neighbourhood of the source point lies inside the window (R77). -/
def insideWindow (width height : Nat) (sx sy : Int) : Bool :=
  decide (0 ≤ sx / 16 ∧ sx / 16 ≤ (width : Int) - 2 ∧ 0 ≤ sy / 16 ∧ sy / 16 ≤ (height : Int) - 2)

/-- The sixth stage: the weighted mean of the four neighbours (R78). -/
def bilinear (fx fy p00 p10 p01 p11 : Nat) : Nat :=
  ((16 - fx) * (16 - fy) * p00 + fx * (16 - fy) * p10 + (16 - fx) * fy * p01 + fx * fy * p11 + 128) / 256

/-- Node G[ka][kb] of SHADE (R70). -/
def shadeNode (shade : List Nat) (ka kb : Nat) : Nat := shade.getD (ka * 17 + kb) 0

/-- The seventh stage: the shading gain at angle `a` and strip position `s` (R79). -/
def shadeGain (shade : List Nat) (a s : Nat) : Nat :=
  let ka := a / 128
  let fa := a % 128
  let kb := s / 256 / 32
  let fb := s / 256 % 32
  let ka' := (ka + 1) % 32
  ((128 - fa) * (32 - fb) * shadeNode shade ka kb + fa * (32 - fb) * shadeNode shade ka' kb
    + (128 - fa) * fb * shadeNode shade ka (kb + 1) + fa * fb * shadeNode shade ka' (kb + 1) + 2048) / 4096

/-- The pre-trim value u (R79). -/
def preTrim (v g : Nat) : Nat := min ((v * g + 2048) / 4096) 65535

/-- The eighth stage: the sector trim at angle `a` (R81). -/
def trimAt (trims : List Nat) (a : Nat) : Nat :=
  let a' := (a + 3840) % 4096
  let k := a' / 512
  let f := a' % 512
  ((512 - f) * trims.getD k 0 + f * trims.getD ((k + 1) % 8) 0 + 256) / 512

/-- The output value w of an unclipped pixel (R82). -/
def outputValue (u t : Nat) : Nat := min ((u * t + 2048) / 4096) 4095

/-- The pixel written into the row at a depth (R82). -/
def atDepth (depth w : Nat) : Nat := if depth = 8 then min ((w + 8) / 16) 255 else w

/-- One output pixel: its value in the row, whether it is clipped or saturated, its sector and its pre-trim value. -/
structure Pixel where
  value : Nat
  clipped : Bool
  saturated : Bool
  sector : Nat
  u : Nat
  deriving DecidableEq, Repr

/-- Output column `c` of a row at strip position `s` (R73 to R82). -/
def renderPixel (k : RenderContext) (samples : List (List Nat)) (s c : Nat) : Pixel :=
  let a := sensorAngle k.w k.rollTotal c
  let rho := radius k.profile s
  let sx := sourceX k.cx rho a
  let sy := sourceY k.cy rho a
  if insideWindow k.width k.height sx sy then
    let ix := (sx / 16).toNat
    let iy := (sy / 16).toNat
    let p00 := sampleAt samples ix iy
    let p10 := sampleAt samples (ix + 1) iy
    let p01 := sampleAt samples ix (iy + 1)
    let p11 := sampleAt samples (ix + 1) (iy + 1)
    let v := bilinear (sx % 16).toNat (sy % 16).toNat p00 p10 p01 p11
    let u := preTrim v (shadeGain k.shade a s)
    ⟨atDepth k.depth (outputValue u (trimAt k.trims a)), false,
      p00 == 4095 || p10 == 4095 || p01 == 4095 || p11 == 4095, a / 512, u⟩
  else ⟨atDepth k.depth k.fill, true, false, a / 512, 0⟩

/-- The W pixels of a row, in column order (R72, R82). -/
def renderRow (k : RenderContext) (samples : List (List Nat)) (s : Nat) : List Pixel :=
  (List.range k.w).map (renderPixel k samples s)

/-! ## Statistics (R80) -/

/-- One pixel added to its sector's sums; a clipped pixel adds nothing. -/
def SectorStat.add (st : SectorStat) (p : Pixel) : SectorStat :=
  ⟨st.count + 1, st.sum + p.u, st.saturated + bit p.saturated⟩

/-- A row's pixels added to the sums of the eight sectors. -/
def addStatistics (stats : List SectorStat) (pixels : List Pixel) : List SectorStat :=
  stats.mapIdx fun k st =>
    (pixels.filter (fun p => !p.clipped && p.sector == k)).foldl SectorStat.add st

/-- The sums at render start. -/
def zeroStatistics : List SectorStat := List.replicate 8 ⟨0, 0, 0⟩

/-! ## Row results (R83, R84) -/

/-- A row's result from its pixels (R83, R84). `unsettled` is never set for a trial row (R89). -/
def rowResult (k : RenderContext) (kind : RowKind) (row : Int) (s : Nat) (unsettled : Bool) (pixels : List Pixel) :
    RowEntry :=
  let clipCount := (pixels.filter (·.clipped)).length
  let satCount := (pixels.filter (·.saturated)).length
  { kind := kind
    row := row
    frameNumber := k.frameNumber
    position := k.position
    s := s
    direction := k.direction
    rollTotal := k.rollTotal
    cx := k.cx
    cy := k.cy
    profileGen := k.profileGen
    shadeGen := k.shadeGen
    columnGen := k.columnGen
    flags :=
      { unsettled := unsettled
        saturated := saturatedFlag k.w satCount
        late := false
        revisit := false
        rollStale := k.rollStale
        centreHeld := k.centreHeld
        clipped := clippedFlag k.w clipCount }
    clipCount := clipCount
    satCount := satCount
    w := k.w
    depth := k.depth
    pixels := pixels.map (·.value) }

/-! ## Row lists (R71, R89) -/

/-- The strip position of the band centre (R71). -/
def bandCentre (b0 b1 : Nat) : Nat := 256 * ((b0 + b1) / 2)

/-- The row list of a stream render: the take list, and a meter row when it does not reach the band centre (R71). -/
def rowList (takeList : List (Int × Nat)) (b0 b1 : Nat) : List RowItem :=
  let takes := takeList.map (fun p => RowItem.take p.1 p.2)
  if takeList.any (fun p => p.2 / 256 == (b0 + b1) / 2) then takes else takes ++ [.meter (bandCentre b0 b1)]

/-- Whether a row list has a meter row. -/
def hasMeterRow (rows : List RowItem) : Bool :=
  rows.any fun
    | .meter _ => true
    | .take _ _ => false

/-- The row list of a trial render: strip rows B0 to B1 (R14, R89). -/
def trialRows (b0 b1 : Nat) : List Nat := (List.range (b1 + 1 - b0)).map (b0 + ·)

end Sys2Proof.Machine
end

