-- ==== Sys2Proof/Machine/Store.lean ====
section
/-! DEFINITION. Row Store and Delivery (chapter 9): slots, gap entries, previews. Its wall stream is served by the arbiter
(Machine/Ops.lean). -/

namespace Sys2Proof.Machine

/-- A row slot is granted (R143). -/
def Rws.rowSlotFree (r : Rws) : Bool := decide (r.rowCount < Config.rowLimit ∧ r.fill < Config.storeSlots)

/-- A gap slot is granted (R143). -/
def Rws.gapSlotFree (r : Rws) : Bool := decide (r.fill < Config.storeSlots)

/-- An entry joins the store behind every entry there (R144). -/
def Rws.push (r : Rws) (e : Entry) : Rws := { r with entries := r.entries ++ [e] }

/-- An entry is stored, and the change of the fill reaches the advisory (R142, R144). -/
def storeEntry (e : Entry) (s : State) : State := fillChanged { s with rws := s.rws.push e }

/-! ## Gap entries (R145, R146) -/

/-- The newest GAP entry of a list of entries, with its place. -/
def newestGap : List Entry → Option (Nat × GapEntry)
  | [] => none
  | e :: rest =>
    match newestGap rest with
    | some (i, g) => some (i + 1, g)
    | none =>
      match e with
      | .gap g => some (0, g)
      | .row _ => none

/-- Entries ahead of the unsent ones: the one in transmission, if there is one (R145). -/
def Rws.sent (r : Rws) : Nat := bit r.wallSending

/-- The newest unsent GAP entry, with its place in the store (R145). -/
def Rws.newestUnsentGap (r : Rws) : Option (Nat × GapEntry) :=
  (newestGap (r.entries.drop r.sent)).map (fun p => (p.1 + r.sent, p.2))

/-- The range continues the entry on one side and has its direction (R145). -/
def adjacentGap (g : GapEntry) (nFirst nLast : Int) (d : Direction) : Bool :=
  decide (g.direction = d ∧ (nFirst = g.nLast + 1 ∨ nLast = g.nFirst - 1))

/-- The entry the range merges into, with its place, when there is one (R145 case 1). -/
def Rws.mergeTarget (r : Rws) (nFirst nLast : Int) (d : Direction) : Option (Nat × GapEntry) :=
  match r.newestUnsentGap with
  | some (i, g) => if adjacentGap g nFirst nLast d then some (i, g) else none
  | none => none

/-- A gap range is handed to RWS at a render start: merged, stored, or lost and reported (R145, R146). -/
def takeGapRange (nFirst nLast : Int) (frameNumber : Nat) (d : Direction) (s : State) : State :=
  match s.rws.mergeTarget nFirst nLast d with
  | some (i, g) =>
    { s with
      rws := { s.rws with
        entries := s.rws.entries.set i
          (.gap { g with nFirst := min g.nFirst nFirst, nLast := max g.nLast nLast }) } }
  | none =>
    if s.rws.gapSlotFree then storeEntry (.gap ⟨nFirst, nLast, frameNumber, d⟩) s
    else
      let lost := min (s.rws.lostGapRows + (nLast - nFirst + 1).toNat) Config.max32
      raiseEvent (.gapLost nFirst nLast frameNumber d lost)
        { s with rws := { s.rws with lostGapRows := lost } }

/-- The ranges of one render start, in the order CVT hands them over (R127). -/
def takeGapRanges (ranges : List (Int × Int)) (frameNumber : Nat) (d : Direction) (s : State) : State :=
  ranges.foldl (fun s r => takeGapRange r.1 r.2 frameNumber d s) s

/-! ## Previews (R154 to R156) -/

/-- The PREVIEW record (R154); while N_prev is 0 the preview counter is held at 0 (R155). -/
def cmdPreview (nPrev : Half) (s : State) : State × Answer :=
  if s.fsq.opState = .unconfigured then (s, .state 0)
  else
    ({ s with
        rws := { s.rws with
          nPrev := min nPrev.toNat 255
          previewCounter := if nPrev.toNat = 0 then 0 else s.rws.previewCounter } },
      .okOrClamped (decide (255 < nPrev.toNat)))

/-- Every eighth item of a list, `n` of them, from the first on. -/
def everyEighth (n : Nat) (l : List α) : List α := (List.range n).filterMap (fun i => l[8 * i]?)

/-- The preview of a frame: the values at columns 8i and rows 8j, divided by 16 (R155). -/
def makePreview (f : Frame) (kind : PreviewKind) : Preview where
  frameNumber := f.record.frameNumber
  position := f.position
  kind := kind
  wp := f.record.width / 8
  hp := f.record.height / 8
  lines := (everyEighth (f.record.height / 8) f.samples).map
    (fun row => (everyEighth (f.record.width / 8) row).map (· / 16))
  nextTile := 0
  sending := false

/-- A preview is due: it is made when the preview queue is empty, and skipped otherwise (R155, R156). -/
def Rws.previewDue (r : Rws) (f : Frame) (kind : PreviewKind) : Rws :=
  match r.preview with
  | none => { r with preview := some (makePreview f kind) }
  | some _ => { r with skipCount := satSucc Config.max16 r.skipCount }

/-- The preview counter at a stream render start (R155). -/
def Rws.previewAtRender (r : Rws) (f : Frame) : Rws :=
  if r.nPrev = 0 then { r with previewCounter := 0 }
  else if r.nPrev ≤ r.previewCounter + 1 then ({ r with previewCounter := 0 }).previewDue f .render
  else { r with previewCounter := r.previewCounter + 1 }

/-- A trial start makes a preview due while N_prev is above 0 (R155). -/
def Rws.previewAtTrial (r : Rws) (f : Frame) : Rws := if r.nPrev = 0 then r else r.previewDue f .trial

/-- The tile in transmission has gone out; after the last the preview queue is empty (R156). A tile whose preview a reset
emptied leaves the queue as it is. -/
def Rws.tileSent (r : Rws) : Rws :=
  match r.preview with
  | none => r
  | some p =>
    if !p.sending then r
    else if tileCount p.hp ≤ p.nextTile + 1 then { r with preview := none }
    else { r with preview := some { p with nextTile := p.nextTile + 1, sending := false } }

/-- The wall report in transmission has gone out: its slot is freed (R148), unless a RESET STREAM has freed it already
(R157). -/
def Rws.wallSent (r : Rws) : Rws :=
  if r.wallSending then { r with entries := r.entries.drop 1, wallSending := false } else r

end Sys2Proof.Machine
end

