-- ==== Sys2Proof/Machine/Render.lean ====
section
/-! DEFINITION. The render of a frame: its start (R49, R69, R123), its rows (R72, R131), its completion (R50, R85, R186);
trial renders (R88, R89, R152, R153); and the readout completion that leads to it (R47). -/

namespace Sys2Proof.Machine

/-! ## Render start -/

/-- The render context of a stream frame (R69, R70), with BCF's, CVT's and TBU's work of this render start done. -/
def streamContext (f : Frame) (direction : Direction) (centreHeld : Bool) (s : State) : RenderContext where
  frameNumber := f.record.frameNumber
  position := f.position
  roll := f.record.roll
  rollStale := f.record.rollStale
  width := f.record.width
  height := f.record.height
  columnGen := f.record.columnGen
  direction := direction
  w := s.strip.record.w
  depth := s.strip.record.depth
  fill := s.strip.record.fill
  b0 := s.strip.record.b0
  b1 := s.strip.record.b1
  rollTotal := (f.record.roll + s.strip.record.mount) % 4096
  cx := s.bcf.currentX
  cy := s.bcf.currentY
  ox := s.bcf.ox
  oy := s.bcf.oy
  centreHeld := centreHeld
  trims := s.ilc.trims
  loopState := s.ilc.loop
  profile := s.tbu.profile.active
  shade := s.tbu.shade.active
  profileGen := s.tbu.profile.gen
  shadeGen := s.tbu.shade.gen

/-- A render start: TBU's commits (R165), BCF's scan (R93), CVT's six steps (R123), GEO's latch (R69, R71), the coverage
term (R30) and the preview (R155). `rest` are the READY buffers behind this one. -/
def startRender (i : BufferId) (f : Frame) (rest : List BufferId) (s : State) : State :=
  let s : State :=
    { s with fsq := { s.fsq with buffers := s.fsq.buffers.set i (.rendering f), readyOrder := rest } }
  let s := applyRenderCommits f.record.frameNumber s
  let scan := s.bcf.scan f
  let start := s.cvt.renderStart s.strip.record f.position
  let s := takeGapRanges start.ranges f.record.frameNumber start.direction { s with bcf := scan.1, cvt := start.cvt }
  { s with
    geo := .render
      { buffer := i
        context := streamContext f start.direction scan.2 s
        rows := rowList start.cvt.takeList s.strip.record.b0 s.strip.record.b1
        done := 0
        stats := zeroStatistics }
    odo := s.odo.coverageChanged start.cvt.advance (bandTicks s.strip.record) s.fsq.opState
    rws := s.rws.previewAtRender f }

/-- A render starts when the state is STREAMING, GEO is idle and a buffer is READY (R49). -/
def tryRenderStart (s : State) : State :=
  if s.fsq.opState = .streaming then
    match s.geo, s.fsq.readyOrder with
    | .idle, i :: rest =>
      match s.fsq.buffers.get i with
      | .ready f => startRender i f rest s
      | .free => s
      | .exposing _ _ => s
      | .rendering _ => s
      | .held _ => s
    | .idle, [] => s
    | .render _, _ => s
    | .trial _, _ => s
    | .trialWait _ _, _ => s
  else s

/-! ## Rows -/

/-- The strip position of a row of the list. -/
def RowItem.position : RowItem → Nat
  | .take _ s => s
  | .meter s => s

/-- A take row's result goes to CVT, and into the store if CVT stores it (R131 to R134, R144). -/
def decideRow (row : RowEntry) (s : State) : State :=
  let d := s.cvt.decide row s.rws.rowSlotFree
  match d.2 with
  | none => { s with cvt := d.1 }
  | some e => storeEntry (.row e) { s with cvt := d.1 }

/-- UNSETTLED: the latched loop state is not LOCKED (R83). -/
def RenderContext.unsettled (k : RenderContext) : Bool := k.loopState != .locked

/-- What a row's completion hands on: a take row to CVT, a meter row nothing (R71, R72). -/
def handOn (k : RenderContext) (item : RowItem) (pixels : List Pixel) (s : State) : State :=
  match item with
  | .take n sp => decideRow (rowResult k .take n sp k.unsettled pixels) s
  | .meter _ => s

/-! ## Render completion -/

/-- The buffer leaves RENDERING: HELD with HELD_READY when the hold mark is set, FREE otherwise (R50). -/
def releaseBuffer (i : BufferId) (f : Frame) (s : State) : State :=
  if s.fsq.holdMark then
    raiseEvent (.heldReady f.record.frameNumber)
      { s with fsq := { s.fsq with buffers := s.fsq.buffers.set i (.held f), holdMark := false } }
  else { s with fsq := { s.fsq with buffers := s.fsq.buffers.set i .free } }

/-- The frame summary (R186), with the post means of this completion's update. -/
def summaryOf (k : RenderContext) (rows : List RowItem) (posts : List (Option Nat)) (s : State) : Summary where
  frameNumber := k.frameNumber
  position := k.position
  direction := k.direction
  advance := s.cvt.advance
  counts := s.cvt.counts
  meterRow := hasMeterRow rows
  loopState := s.ilc.loop
  drives := s.ilc.drives
  trims := s.ilc.trims
  posts := posts
  advisory := s.odo.level
  speed := s.odo.speed
  ox := k.ox
  oy := k.oy
  centreHeld := k.centreHeld
  roll := k.roll
  rollStale := k.rollStale
  profileGen := k.profileGen
  shadeGen := k.shadeGen
  columnGen := k.columnGen

/-- A render completes (R85): the illumination update, the buffer, GEO idle, the summary, pending phase errors, and then
the tests of R49 and R39. The items join the control queue in the order of R187. -/
def finishRender (w : RenderWork) (f : Frame) (s : State) : State :=
  let u := s.ilc.onStatistics w.context.frameNumber w.stats w.context.trims
  let s := releaseBuffer w.buffer f { s with ilc := u.1, geo := .idle }
  let s := raise (.summary (summaryOf w.context w.rows u.2 s)) s
  stopTest (tryRenderStart (reportPhaseErrors s))

/-- A row of the stream render in hand completes (R72). -/
def completeRow (w : RenderWork) (item : RowItem) (f : Frame) (s : State) : State :=
  let pixels := renderRow w.context f.samples item.position
  let s := handOn w.context item pixels s
  let w := { w with done := w.done + 1, stats := addStatistics w.stats pixels }
  if w.rows.length ≤ w.done then finishRender w f s else { s with geo := .render w }

/-- The completion of the row GEO is rendering; GEO renders none outside RENDER (log 4). -/
def rowCompletion (s : State) : State :=
  match s.geo with
  | .render w =>
    match w.rows[w.done]?, s.fsq.buffers.get w.buffer with
    | some item, .rendering f => completeRow w item f s
    | _, _ => s
  | .idle => s
  | .trial _ => s
  | .trialWait _ _ => s

/-! ## Trial renders -/

/-- The trial context (R88): the centre and the trims as they stand, the pending copies, the active generations. -/
def trialContext (f : Frame) (s : State) : RenderContext :=
  { streamContext f .stopped false s with
    profile := s.tbu.profile.pending
    shade := s.tbu.shade.pending }

/-- RERENDER (R152). -/
def cmdRerender (s : State) : State × Answer :=
  if s.fsq.opState ≠ .idle then (s, .state 0)
  else if s.geo.inTrial then (s, .busy)
  else if s.fsq.buffers.holdInFlight then (s, .busy)
  else
    match s.fsq.buffers.heldFrame with
    | none => (s, .state 0)
    | some (i, f) =>
      if !s.strip.held then (s, .state 1)
      else
        ({ s with
            geo := .trial
              { buffer := i
                context := trialContext f s
                rows := trialRows s.strip.record.b0 s.strip.record.b1
                done := 0 }
            rws := s.rws.previewAtTrial f }, .ok)

/-- A trial row is stored; after the last the trial completes and TRIAL_DONE is raised (R153). -/
def storeTrialRow (w : TrialWork) (e : RowEntry) (s : State) : State :=
  let s := storeEntry (.row e) s
  if w.rows.length ≤ w.done + 1 then
    raiseEvent (.trialDone w.context.frameNumber w.rows.length w.context.profileGen w.context.shadeGen)
      { s with geo := .idle }
  else { s with geo := .trial { w with done := w.done + 1 } }

/-- A completed trial row asks for a row slot; refused one, GEO waits with the row kept (R153, R89). -/
def offerTrialRow (w : TrialWork) (e : RowEntry) (s : State) : State :=
  if s.rws.rowSlotFree then storeTrialRow w e s else { s with geo := .trialWait w e }

/-- The result of the trial row at strip row `r` (R89, R150). -/
def trialResult (k : RenderContext) (r : Nat) (samples : List (List Nat)) : RowEntry :=
  rowResult k .trial r (r * 256) false (renderRow k samples (r * 256))

/-- The completion of the trial row GEO is rendering; GEO renders none outside TRIAL (log 4). -/
def trialRowCompletion (s : State) : State :=
  match s.geo with
  | .trial w =>
    match w.rows[w.done]?, s.fsq.buffers.get w.buffer with
    | some r, .held f => offerTrialRow w (trialResult w.context r f.samples) s
    | _, _ => s
  | .idle => s
  | .render _ => s
  | .trialWait _ _ => s

/-- A trial render that waits stores its kept row once a row slot is free (R148, R153). -/
def resumeTrial (s : State) : State :=
  match s.geo with
  | .trialWait w e => if s.rws.rowSlotFree then storeTrialRow w e s else s
  | .idle => s
  | .render _ => s
  | .trial _ => s

/-! ## Readout completion (R47) -/

/-- A calibration readout: its samples enter the sums here, none while it is under way (R60; log 28). The sixteenth ends the
calibration: R61, then the timer stops and the state becomes IDLE (R40), and a COLUMN commit that waited is applied or
cancelled (R166). -/
def calibrationReadout (r : ExposureRecord) (rows : List (List Nat)) (s : State) : State :=
  let b := s.blk.accumulate rows
  let s : State := { s with blk := { b with calFrames := b.calFrames + 1 } }
  if s.blk.calFrames = 16 then
    setOpState .idle
      (completeCalibration r { s with fsq := { s.fsq with timer := none } })
  else applyIdleCommits s

/-- A STREAM frame's readout (R47): READY while STREAMING, discarded otherwise. While STREAMING with GEO idle its render starts
at once (R49), so that a STOP of the same moment, taken behind it, finds it RENDERING and lets it complete; R38 says of that
case that STOP finds it READY and discards it. The model follows R49: its choice between the two, log 33. -/
def streamReadout (i : BufferId) (f : Frame) (s : State) : State :=
  if s.fsq.opState = .streaming then
    tryRenderStart
      { s with
        fsq := { s.fsq with
          buffers := s.fsq.buffers.set i (.ready f), readyOrder := s.fsq.readyOrder ++ [i] } }
  else
    stopTest (applyIdleCommits
      { s with
        fsq := { s.fsq with buffers := s.fsq.buffers.set i .free, discardCount := s.fsq.discardCount + 1 } })

/-- The last sample of the window is written: the buffer passes on by the frame's kind (R47). Readout is not in progress
otherwise (log 4). -/
def readoutCompletion (raw : List (List Sample)) (s : State) : State :=
  match s.fsq.buffers.exposure with
  | some (i, r, .readout x) =>
    let rows := rawSamples r raw
    let f : Frame := ⟨r, x, storedSamples r s.tbu.column.active s.blk.drift rows⟩
    let freed : State := { s with fsq := { s.fsq with buffers := s.fsq.buffers.set i .free } }
    match r.kind with
    | .stream => streamReadout i f s
    | .dark =>
      stopTest (tryRenderStart (applyIdleCommits
        { freed with blk := s.blk.measureDark s.tbu.column.active rows }))
    | .calibration => calibrationReadout r rows freed
    | .hold =>
      raiseEvent (.heldReady r.frameNumber)
        (applyIdleCommits { s with fsq := { s.fsq with buffers := s.fsq.buffers.set i (.held f) } })
  | some (_, _, .beforeMidpoint) => s
  | some (_, _, .beforeEnd _) => s
  | none => s

end Sys2Proof.Machine
end

