-- ==== Sys2Proof/Machine/Control.lean ====
section
/-! DEFINITION. The commands that move the operating state: CALIBRATE (R40), START (R37), STOP (R38), and the resets (R55,
R56, R182, R183). -/

namespace Sys2Proof.Machine

/-- CALIBRATE (R40, R60). -/
def cmdCalibrate (s : State) : State × Answer :=
  if s.fsq.opState ≠ .idle then (s, .state 0)
  else if s.fsq.buffers.holdInFlight then (s, .busy)
  else
    (setOpState .calibrating
      { s with
        fsq := { s.fsq with timer := some 0 }
        blk := s.blk.emptyAccumulators }, .ok)

/-- What START does besides the change of state (R37, R38, R65, R66, R105, R155). -/
def startEffects (s : State) : State :=
  { s with
    fsq := { s.fsq with timer := some 0, darkCounter := 0, discardCount := 0 }
    blk := { s.blk with darkMeasured := 0 }
    ilc := s.ilc.atStart
    rws := { s.rws with previewCounter := 0 } }

/-- START (R37). -/
def cmdStart (s : State) : State × Answer :=
  if s.fsq.opState ≠ .idle then (s, .state 0)
  else if !s.strip.held then (s, .state 1)
  else if s.tbu.profile.gen = 0 then (s, .state 2)
  else if !s.blk.calValid then (s, .state 3)
  else if s.fsq.buffers.holdInFlight || s.geo.inTrial then (s, .busy)
  else (setOpState .streaming (startEffects s), .ok)

/-- Every exposure in flight is abandoned and the ring goes dark. -/
def Fsq.abandonExposures (f : Fsq) : Fsq :=
  { f with buffers := f.buffers.map Buffer.abandonExposure, led := darkRing, strobe := false, timer := none }

/-- STOP in CALIBRATING (R38, R62). -/
def stopCalibration (s : State) : State :=
  let s := keepDelivered s
  setOpState .idle
    (raiseEvent (.calAborted .stop s.blk.calFrames) { s with fsq := s.fsq.abandonExposures })

/-- STOP in STREAMING (R38): the READY frames are discarded, and the one RENDERING completes, also when its readout completed
at the moment of the STOP and R49 has started its render: the model's choice between R38 and R49, log 33. -/
def stopStream (s : State) : State :=
  stopTest (setOpState .stopping
    { s with
      fsq := { s.fsq with
        timer := none
        buffers := s.fsq.buffers.map Buffer.discardReady
        readyOrder := []
        discardCount := s.fsq.discardCount + s.fsq.buffers.count (fun b => b.ready?.isSome) } })

/-- STOP (R38). -/
def cmdStop (s : State) : State × Answer :=
  match s.fsq.opState with
  | .unconfigured => (s, .state 0)
  | .idle => (s, .state 0)
  | .calibrating => (stopCalibration s, .ok)
  | .streaming => (stopStream s, .ok)
  | .stopping => (s, .ok)

/-! ## Resets -/

/-- A running calibration is aborted by RESET STREAM (R62). -/
def resetCalibration (s : State) : State :=
  if s.fsq.opState = .calibrating then
    let s := keepDelivered s
    raiseEvent (.calAborted .reset s.blk.calFrames) s
  else s

/-- FSQ at RESET STREAM (R55), all but the operating state. -/
def Fsq.resetStream (f : Fsq) : Fsq :=
  { f with
    timer := none
    buffers := ⟨.free, .free, .free⟩
    readyOrder := []
    holdMark := false
    led := darkRing
    strobe := false }

/-- ODO's terms at RESET STREAM (R30, R31). -/
def Odo.resetStream (o : Odo) : Odo :=
  { o with coverageTerm := .go, storeTerm := storeTermAfter o.advisory 0 o.storeTerm }

/-- RWS at RESET STREAM (R157). -/
def Rws.resetStream (r : Rws) : Rws := { r with entries := [], wallSending := false, seq := 0, preview := none }

/-- RESET STREAM (R182): the control queue is emptied first; then every block acts, and the change of operating state
re-forms the level and applies the armed commits. That the discarded frame counts are 0 is log 29. -/
def resetStream (s : State) : State :=
  let s := resetCalibration { s with lnk := { s.lnk with controlQueue := [] } }
  setOpState (if s.fsq.sensorHeld then .idle else .unconfigured)
    { s with
      fsq := s.fsq.resetStream
      odo := s.odo.resetStream
      bcf := s.bcf.resetOffset
      geo := .idle
      cvt := { s.cvt.clear with counts := FrameCounts.zero, advance := 0 }
      rws := s.rws.resetStream }

/-- A reset of the line buffer cuts off the line being received, and a line cut off before stays so until its LF (R22). -/
def Odo.cutByReset (o : Odo) : Bool := o.lineCut || !o.lineBuf.isEmpty

/-- Power-on reset, and RESET FULL on every block and on the link (R56, R183); the pins keep their levels. -/
def fullReset (s : State) : State := State.powerOn s.odo.lineA s.odo.lineB s.odo.cutByReset s.freeIx s.pending

end Sys2Proof.Machine
end

