-- ==== Sys2Proof/Machine/Status.lean ====
section
/-! DEFINITION. The replies that describe the part: IDENTIFY (11 R180) and STATUS (11 R181), in the layouts of R189. The
marks of absence and the sizes R189 leaves to its classes are those of log 14. -/

namespace Sys2Proof.Machine

/-! ## IDENTIFY (R180) -/

/-- "EZAFOR". -/
def vendorText : List Byte := [0x45, 0x5A, 0x41, 0x46, 0x4F, 0x52]

/-- "JALAZ JW216". -/
def partText : List Byte := [0x4A, 0x41, 0x4C, 0x41, 0x5A, 0x20, 0x4A, 0x57, 0x32, 0x31, 0x36]

/-- The ten limits of leaf 2, in the order R180 lists them. -/
def limits : List Nat := [3, 4096, 1024, 1008, 2048, 65, 32, 17, 1600, 8]

/-- IDENTIFY: the leaf, or BAD above leaf 3. -/
def identifyAnswer (leaf : Byte) : Answer :=
  match leaf.toNat with
  | 0 => .okWith (leaf :: (vendorText ++ [3]))
  | 1 => .okWith (leaf :: (partText ++ leBytes 2 Config.revision.toNat))
  | 2 => .okWith (leaf :: limits.flatMap (leBytes 2))
  | 3 => .okWith (leaf :: leBytes 8 Config.serial.toNat)
  | _ => .bad

/-! ## The marks of absence (R189) -/

/-- A presence byte and `k` bytes: the value, or zeros. -/
def optBytes (k : Nat) : Option Nat → List Byte
  | some v => leBytes 1 1 ++ leBytes k v
  | none => leBytes 1 0 ++ leBytes k 0

/-- A presence byte and `k` bytes of a signed quantity: the value, or zeros. -/
def optInt (k : Nat) : Option Int → List Byte
  | some v => leBytes 1 1 ++ leInt k v
  | none => leBytes 1 0 ++ leInt k 0

/-- A presence byte and two signed quantities of `k` bytes: a span or a centroid. -/
def optPair (k : Nat) : Option (Int × Int) → List Byte
  | some (a, b) => leBytes 1 1 ++ leInt k a ++ leInt k b
  | none => leBytes 1 0 ++ leInt k 0 ++ leInt k 0

/-- One section: its number, its length, its fields (R181, R189). -/
def statusSection (number : Nat) (fields : List Byte) : List Byte :=
  leBytes 1 number ++ leBytes 2 fields.length ++ fields

/-! ## Settings records in their SET layout (R189) -/

def SensorRecord.layout (r : SensorRecord) : List Byte :=
  leBytes 2 r.width ++ leBytes 2 r.height ++ leBytes 2 r.period ++ leBytes 2 r.exposure ++ leBytes 1 r.source.code

def StripRecord.layout (r : StripRecord) : List Byte :=
  leBytes 2 r.w ++ leBytes 2 r.b0 ++ leBytes 2 r.b1 ++ leBytes 1 r.p ++ leBytes 1 r.depth ++ leInt 4 r.z0
    ++ leBytes 2 r.mount ++ leBytes 2 r.fill

def LightRecord.layout (r : LightRecord) : List Byte :=
  leBytes 2 r.t ++ leBytes 2 r.tol ++ leBytes 2 r.cap ++ leBytes 2 r.start

def CentreRecord.layout (r : CentreRecord) : List Byte :=
  leInt 2 r.cx ++ leInt 2 r.cy ++ leBytes 1 (bit r.follow) ++ leBytes 1 0 ++ leBytes 2 r.threshold
    ++ leBytes 2 r.mincount ++ leBytes 2 r.maxoff

def OdometerRecord.layout (r : OdometerRecord) : List Byte :=
  leInt 1 r.sign ++ leBytes 1 0 ++ leInt 2 r.step ++ leInt 4 r.zm

def AdvisoryRecord.layout (r : AdvisoryRecord) : List Byte :=
  leBytes 2 r.tResume ++ leBytes 2 r.tSlow ++ leBytes 2 r.tHold

/-! ## Section 1: FSQ -/

/-- The frame number and kind of a buffer that is not FREE (R48). -/
def Buffer.record? : Buffer → Option ExposureRecord
  | .free => none
  | .exposing r _ => some r
  | .ready f => some f.record
  | .rendering f => some f.record
  | .held f => some f.record

def bufferStatus (b : Buffer) : List Byte :=
  leBytes 1 b.code ++ optBytes 4 (b.record?.map (·.frameNumber)) ++ optBytes 1 (b.record?.map (·.kind.code))

/-- A frame record in the order of the table of R44; its position, which can be absent, has its own mark. -/
def frameRecordBytes (r : ExposureRecord) (position : Option Int) : List Byte :=
  leBytes 4 r.frameNumber ++ leBytes 1 r.kind.code ++ leBytes 2 r.width ++ leBytes 2 r.height
    ++ leBytes 1 r.source.code ++ leBytes 2 r.exposure ++ r.drives.flatMap (leBytes 2) ++ leBytes 2 r.roll
    ++ leBytes 1 (bit r.rollStale) ++ leBytes 2 r.columnGen ++ optInt 4 position

/-- The record sent, as zeros, when no buffer is HELD. -/
def emptyRecord : ExposureRecord := ⟨0, .stream, 0, 0, .sensor, 0, darkRing, 0, false, 0⟩

/-- The frame record of the HELD buffer (R48), behind one presence byte for the whole of it; the position inside it keeps the
mark of its own: the model's choice, log 14. -/
def heldStatus (b : Buffers) : List Byte :=
  match b.heldFrame with
  | some (_, f) => leBytes 1 1 ++ frameRecordBytes f.record (some f.position)
  | none => leBytes 1 0 ++ frameRecordBytes emptyRecord none

def fsqStatus (f : Fsq) : List Byte :=
  leBytes 1 f.opState.code ++ leBytes 1 (bit f.sensorHeld) ++ f.sensor.layout
    ++ f.buffers.all.flatMap bufferStatus ++ leBytes 1 (bit f.holdMark) ++ heldStatus f.buffers
    ++ leBytes 4 f.slipCount ++ leBytes 4 f.discardCount

/-! ## Sections 2 to 6 -/

def stripStatus (s : Strip) : List Byte := leBytes 1 (bit s.held) ++ s.record.layout

def blkStatus (b : Blk) (nDark : Nat) : List Byte :=
  leInt 2 b.drift ++ leBytes 1 (bit b.calValid) ++ leBytes 4 b.calFrames ++ leBytes 4 b.calSaturated
    ++ leBytes 2 nDark ++ leBytes 4 b.darkMeasured ++ leInt 2 b.lastDark

/-- The roll age in ms, saturated at 65535 (R24). Of the two advisory terms the coverage term stands before the store term, in
the order of R30 and R31: R181 and R32 say only that both are reported, so it is the model's choice, log 14. -/
def odoStatus (o : Odo) : List Byte :=
  leInt 4 o.x ++ leBytes 4 o.phaseRunning ++ leInt 2 o.speed ++ o.odometer.layout ++ leBytes 2 o.roll
    ++ leBytes 1 (bit o.rollReceived) ++ leBytes 2 (min o.rollAge 65535) ++ leBytes 1 (bit o.up.isSome)
    ++ leBytes 1 (bit o.down.isSome) ++ leBytes 4 o.malformed ++ leBytes 4 o.overrun ++ leBytes 1 o.level.code
    ++ leBytes 1 o.coverageTerm.code ++ leBytes 1 o.storeTerm.code ++ o.advisory.layout

def ScanRecord.frame? : ScanRecord → Option Nat
  | .none => Option.none | .off f => some f | .updated f _ _ _ => some f | .held f _ => some f

def ScanRecord.count? : ScanRecord → Option Nat
  | .none => Option.none | .off _ => Option.none | .updated _ c _ _ => some c | .held _ c => some c

def ScanRecord.centroid? : ScanRecord → Option (Int × Int)
  | .none => Option.none | .off _ => Option.none | .updated _ _ mx my => some (mx, my) | .held _ _ => Option.none

def bcfStatus (b : Bcf) : List Byte :=
  b.centre.layout ++ leInt 2 b.ox ++ leInt 2 b.oy ++ leBytes 1 b.lastScan.code ++ optBytes 4 b.lastScan.frame?
    ++ optBytes 4 b.lastScan.count? ++ optPair 2 b.lastScan.centroid?

/-- Frame number, rows in the row list and rows completed of the work in hand (R68). A row that waits for a slot is completed
(R89, R153), though it is not stored. For TRIAL and TRIAL_WAIT R68 says "the same counts" and does not name the frame number;
the held frame's is reported there as for RENDER: the model's choice, log 34. -/
def Geo.progress : Geo → Option (Nat × Nat × Nat)
  | .idle => none
  | .render w => some (w.context.frameNumber, w.rows.length, w.done)
  | .trial w => some (w.context.frameNumber, w.rows.length, w.done)
  | .trialWait w _ => some (w.context.frameNumber, w.rows.length, w.done + 1)

def geoStatus (g : Geo) : List Byte :=
  leBytes 1 g.code ++ optBytes 4 (g.progress.map (·.1)) ++ optBytes 4 (g.progress.map (·.2.1))
    ++ optBytes 4 (g.progress.map (·.2.2))

/-! ## Section 7: ILC (R120) -/

def sectorStatus (u : SectorUpdate) : List Byte :=
  leBytes 4 u.count ++ leBytes 4 u.saturated ++ optBytes 4 u.mean ++ optBytes 4 u.post ++ leBytes 1 (bit u.settled)
    ++ leBytes 1 (bit u.pinnedHigh) ++ leBytes 1 (bit u.capped)

/-- The sectors of the last update record. When it is empty (R120) they are zeros without a mark of absence of their own: the
frame number's presence byte marks the whole record. R189 does not say so: the model's choice, log 14. -/
def Ilc.reportedSectors (i : Ilc) : List SectorUpdate :=
  match i.lastUpdate with
  | some u => u.sectors
  | none => List.replicate 8 ⟨0, 0, none, none, false, false, false⟩

/-- R120. An empty last update record is reported by the presence byte of its frame number, which stands as the mark of the
whole record, the eight sectors included: the model's choice, log 14. -/
def ilcStatus (i : Ilc) : List Byte :=
  leBytes 1 i.loop.code ++ leBytes 4 i.clean ++ leBytes 4 i.unsettled ++ leBytes 4 i.stale
    ++ i.drives.flatMap (leBytes 2) ++ leBytes 2 i.drives.sum ++ i.trims.flatMap (leBytes 2) ++ i.light.layout
    ++ optBytes 4 (i.lastUpdate.map (·.frameNumber)) ++ i.reportedSectors.flatMap sectorStatus

/-! ## Section 8: CVT (R141) -/

/-- Ring entries in a row state. -/
def ringCount (ring : List RingEntry) (st : RowState) : Nat := ring.countP (fun e => e.state == st)

/-- R141. The four counts of row states stand in the order in which R121 names the states, UNSEEN, SOFT, FIRM, GAP: R189 takes
the order from R141, which gives none, so it is the model's choice, log 14. -/
def cvtStatus (c : Cvt) : List Byte :=
  leInt 4 c.wb ++ optPair 4 c.span ++ optPair 4 c.ever ++ optInt 4 c.xprev ++ leBytes 1 c.prevDir.code
    ++ leBytes 4 (ringCount c.ring .unseen) ++ leBytes 4 (ringCount c.ring .soft)
    ++ leBytes 4 (ringCount c.ring .firm) ++ leBytes 4 (ringCount c.ring .gap)
    ++ leBytes 4 (c.ring.countP (·.revisit)) ++ leBytes 4 c.takeList.length

/-! ## Section 9: RWS (R158) -/

/-- The seq of the wall report in transmission (R158; log 30). -/
def Outgoing.wallSeq? : Outgoing → Option Nat
  | .reply _ => none | .wall seq _ => some seq | .marker _ => none | .control _ => none | .tile _ => none

/-- Whether there is a preview, its frame number, and its tiles still to be sent (R158). The tile in transmission counts
among those still to be sent, until its transmission ends: R158 does not say whether it does, the model's choice, log 32.
One byte says whether there is a preview, and stands as the mark of absence of both numbers: the model's choice, log 14. -/
def previewStatus : Option Preview → List Byte
  | some p => leBytes 1 1 ++ leBytes 4 p.frameNumber ++ leBytes 4 (tileCount p.hp - p.nextTile)
  | none => leBytes 1 0 ++ leBytes 4 0 ++ leBytes 4 0

/-- R158. One byte says whether a wall report is in transmission and stands as the presence byte of its seq: R189 leaves open
whether they are two, the model's choice, log 14. The seq is that of the wall report in transmission, also of one whose entry a RESET STREAM has emptied from the
store, where R158 speaks of the oldest entry and there is none: the model's choice, log 30. -/
def rwsStatus (r : Rws) (tx : Option Outgoing) : List Byte :=
  leBytes 4 r.fill ++ leBytes 4 r.rowCount ++ leBytes 4 r.gapCount ++ optBytes 2 (tx.bind Outgoing.wallSeq?)
    ++ leBytes 2 r.seq ++ leBytes 4 r.lostGapRows ++ leBytes 2 r.nPrev ++ leBytes 4 r.previewCounter
    ++ leBytes 4 r.skipCount ++ previewStatus r.preview

/-! ## Sections 10 and 11 -/

/-- R171. One byte says whether a commit is armed and stands as the presence byte of its expected generation: R189 leaves
open whether they are two, the model's choice, log 14. -/
def tableStatus (t : TableState) : List Byte := leBytes 2 t.gen ++ optBytes 2 t.armed

def tbuStatus (t : Tbu) : List Byte :=
  tableStatus t.profile ++ tableStatus t.shade ++ tableStatus t.column ++ leBytes 1 (bit t.parked.isSome)

/-- Reply places free while the STATUS is in hand, its own place taken (R177; log 15). -/
def freePlaces (s : State) : Nat := Config.replyPlaces - (placesUsed s + 1)

def lnkStatus (s : State) : List Byte :=
  leBytes 4 s.lnk.accepted ++ leBytes 4 s.lnk.crcFaults ++ leBytes 4 s.lnk.lengthFaults ++ leBytes 4 s.lnk.silences
    ++ leBytes 4 s.lnk.overflows ++ leBytes 4 s.lnk.summariesDropped ++ leBytes 4 s.lnk.eventsDropped
    ++ leBytes 4 (freePlaces s) ++ leBytes 4 s.lnk.cmdQueue.length ++ leBytes 4 (refusalsWaiting s)
    ++ leBytes 4 s.lnk.controlQueue.length

/-- The payload of a STATUS reply: the eleven sections (R181). -/
def statusReport (s : State) : List Byte :=
  statusSection 1 (fsqStatus s.fsq)
    ++ statusSection 2 (stripStatus s.strip)
    ++ statusSection 3 (blkStatus s.blk s.fsq.nDark)
    ++ statusSection 4 (odoStatus s.odo)
    ++ statusSection 5 (bcfStatus s.bcf)
    ++ statusSection 6 (geoStatus s.geo)
    ++ statusSection 7 (ilcStatus s.ilc)
    ++ statusSection 8 (cvtStatus s.cvt)
    ++ statusSection 9 (rwsStatus s.rws s.lnk.tx)
    ++ statusSection 10 (tbuStatus s.tbu)
    ++ statusSection 11 (lnkStatus s)

end Sys2Proof.Machine
end

