-- ==== Sys2Proof/Machine/Wire.lean ====
section
/-! DEFINITION. What the part's two transmitters put on the wire (11 R172, R178, R187, R189; 02 R23, R29, R32): the CRC, the
frame of a message, the payload of every report, and the lines of the crawler port. -/

namespace Sys2Proof.Machine

/-! ## The CRC and the frame (R172) -/

/-- One shift of the CRC register, generator x^16 + x^12 + x^5 + 1. -/
def crcShift (r : BitVec 16) : BitVec 16 := if r.msb then (r <<< 1) ^^^ 0x1021#16 else r <<< 1

/-- A byte enters the CRC register, most significant bit first. -/
def crcByte (r : BitVec 16) (b : Byte) : BitVec 16 :=
  crcShift (crcShift (crcShift (crcShift (crcShift (crcShift (crcShift (crcShift
    (r ^^^ (b.zeroExtend 16 <<< 8)))))))))

/-- The CRC of a string of bytes: the register starts at all ones and is sent as it stands. -/
def crc (bytes : List Byte) : BitVec 16 := bytes.foldl crcByte 0xFFFF#16

/-- The bytes the CRC covers: the kind byte through the last payload byte. -/
def covered (kind tag : Byte) (payload : List Byte) : List Byte :=
  kind :: tag :: (leBytes 2 payload.length ++ payload)

/-- A message on the tether. -/
def frame (kind tag : Byte) (payload : List Byte) : List Byte :=
  0xA5 :: 0x5A :: (covered kind tag payload ++ leBytes 2 (crc (covered kind tag payload)).toNat)

/-! ## The wall stream -/

/-- Pixels at depth 12: three bytes for each pair (R189). -/
def packPairs : List Nat → List Byte
  | a :: b :: rest =>
    BitVec.ofNat 8 a :: BitVec.ofNat 8 (a / 256 + 16 * (b % 16)) :: BitVec.ofNat 8 (b / 16) :: packPairs rest
  | _ => []

/-- The pixels of a row report (R189). -/
def packPixels (depth : Nat) (pixels : List Nat) : List Byte :=
  if depth = 8 then pixels.map (BitVec.ofNat 8) else packPairs pixels

/-- The payload of a ROW report (R150, R189). -/
def rowPayload (seq : Nat) (e : RowEntry) : List Byte :=
  (leBytes 2 seq ++ leBytes 1 e.kind.code ++ leBytes 1 e.direction.code ++ leInt 4 e.row ++ leBytes 4 e.frameNumber
      ++ leInt 4 e.position ++ leBytes 4 e.s)
    ++ (leBytes 2 e.rollTotal ++ leInt 2 e.cx ++ leInt 2 e.cy
      ++ leBytes 2 e.profileGen ++ leBytes 2 e.shadeGen ++ leBytes 2 e.columnGen)
    ++ (leBytes 2 e.flags.code ++ leBytes 2 e.clipCount ++ leBytes 2 e.satCount
      ++ leBytes 2 e.w ++ leBytes 1 e.depth ++ leBytes 1 0 ++ packPixels e.depth e.pixels)

/-- The payload of a GAP report (R151, R189). -/
def gapPayload (seq : Nat) (g : GapEntry) : List Byte :=
  leBytes 2 seq ++ leBytes 1 g.direction.code ++ leBytes 1 0 ++ leInt 4 g.nFirst ++ leInt 4 g.nLast
    ++ leBytes 4 g.frameNumber

/-! ## The control stream -/

/-- A post mean of a summary: 0xFFFFFFFF when absent (R189). -/
def postField : Option Nat → List Byte
  | none => leBytes 4 0xFFFFFFFF
  | some v => leBytes 4 v

/-- The payload of a SUMMARY report (R186, R189). -/
def summaryPayload (m : Summary) : List Byte :=
  (leBytes 4 m.frameNumber ++ leInt 4 m.position ++ leBytes 1 m.direction.code ++ leBytes 1 m.loopState.code
      ++ leBytes 1 m.advisory.code ++ leBytes 1 m.marks ++ leBytes 4 m.advance)
    ++ (leBytes 2 m.counts.taken ++ leBytes 2 m.counts.retaken ++ leBytes 2 m.counts.rejected
      ++ leBytes 2 m.counts.late ++ leBytes 2 m.counts.revisit ++ leBytes 2 m.counts.skips
      ++ leBytes 4 m.counts.gapRows)
    ++ (m.drives.flatMap (leBytes 2) ++ m.trims.flatMap (leBytes 2) ++ m.posts.flatMap postField)
    ++ (leInt 2 m.ox ++ leInt 2 m.oy ++ leBytes 2 m.roll ++ leBytes 2 m.profileGen ++ leBytes 2 m.shadeGen
      ++ leBytes 2 m.columnGen ++ leInt 2 m.speed ++ leBytes 2 0)

/-- The fields of an event, in the order R187 lists them, in the sizes of R189. -/
def eventFields : Event → List Byte
  | .frameSlip slips cause frameCounter => leBytes 4 slips ++ leBytes 1 cause.code ++ leBytes 4 frameCounter
  | .calDone gen width height least greatest saturated =>
    leBytes 2 gen ++ leBytes 2 width ++ leBytes 2 height ++ leBytes 2 least ++ leBytes 2 greatest ++ leBytes 4 saturated
  | .calAborted cause frames => leBytes 1 cause.code ++ leBytes 4 frames
  | .heldReady frameNumber => leBytes 4 frameNumber
  | .trialDone frameNumber stored profileGen shadeGen =>
    leBytes 4 frameNumber ++ leBytes 4 stored ++ leBytes 2 profileGen ++ leBytes 2 shadeGen
  | .commitApplied table gen point =>
    leBytes 1 table.code ++ leBytes 2 gen ++ leBytes 1 point.code ++ leBytes 4 point.frame
  | .commitCancelled table expected found => leBytes 1 table.code ++ leBytes 2 expected ++ leBytes 2 found
  | .phaseError pending running => leBytes 4 pending ++ leBytes 4 running
  | .gapLost nFirst nLast frameNumber direction lostRows =>
    leInt 4 nFirst ++ leInt 4 nLast ++ leBytes 4 frameNumber ++ leBytes 1 direction.code ++ leBytes 4 lostRows
  | .stopped discards lastFrame holdDropped =>
    leBytes 4 discards ++ leBytes 4 lastFrame ++ leBytes 1 (bit holdDropped)

/-- The payload of an EVENT report (R187, R189). -/
def eventPayload (e : Event) : List Byte := leBytes 1 e.code ++ leBytes 1 0 ++ eventFields e

/-- The payload of a MARKER report (R27, R189). -/
def markerPayload (m : Marker) : List Byte :=
  leBytes 1 m.code.length ++ padTo 0 8 m.code ++ leInt 4 m.x ++ leBytes 4 m.frameCounter
    ++ leBytes 1 (bit m.row.isSome) ++ leInt 4 (m.row.getD 0)

/-! ## The preview stream -/

/-- The payload of a PREVIEW report (R156, R189). -/
def tilePayload (t : Tile) : List Byte :=
  leBytes 4 t.frameNumber ++ leInt 4 t.position ++ leBytes 1 t.kind.code ++ leBytes 1 0 ++ leBytes 2 t.wp
    ++ leBytes 2 t.hp ++ leBytes 1 t.tile ++ leBytes 1 t.tiles ++ leBytes 2 (8 * t.tile)
    ++ leBytes 1 t.lines.length ++ leBytes 1 0 ++ t.lines.flatten.map (BitVec.ofNat 8)

/-! ## What is on the wire -/

/-- The bytes of the message in transmission; the tag of a report is 0 (R172, R178, R189). -/
def Outgoing.bytes : Outgoing → List Byte
  | .reply r => frame (BitVec.ofNat 8 r.code.code) r.tag r.payload
  | .wall seq (.row e) => frame 0x40 0 (rowPayload seq e)
  | .wall seq (.gap g) => frame 0x41 0 (gapPayload seq g)
  | .control (.summary m) => frame 0x42 0 (summaryPayload m)
  | .control (.event e) => frame 0x43 0 (eventPayload e)
  | .marker m => frame 0x44 0 (markerPayload m)
  | .tile t => frame 0x45 0 (tilePayload t)

/-- The message the tether's transmit pin carries; nothing while the downlink is free. -/
def State.downlinkBytes (s : State) : List Byte :=
  match s.lnk.tx with
  | none => []
  | some o => o.bytes

/-- The text of an advisory line: `V` space and the level's letter (2.5, R32). -/
def advisoryText : Advisory → List Byte
  | .go => [0x56, 0x20, 0x47]
  | .slow => [0x56, 0x20, 0x53]
  | .hold => [0x56, 0x20, 0x48]

/-- The text of a line of the crawler port. -/
def PortLine.text : PortLine → List Byte
  | .response text => text
  | .advisory level => advisoryText level

/-- The line the crawler port's transmit pin carries, closed by CR and LF (2.5); nothing while it is idle. -/
def State.portBytes (s : State) : List Byte :=
  match s.odo.portTx with
  | none => []
  | some line => line.text ++ [0x0D, 0x0A]

end Sys2Proof.Machine
end

