-- ==== Sys2Proof/Machine/Link.lean ====
section
/-! DEFINITION. The tether link (chapter 11): the receiver (R173, R174), the command queue and the refusal list (R176), how a
command is taken and answered (R175, R177), and what the end of a transmission does (R177, R148, R27, R185, R156). -/

namespace Sys2Proof.Machine

/-! ## Taking a command (R175, R177) -/

/-- The reply of a command's owning rule is put into its reserved place (R177). -/
def answer (tag : Byte) (r : State × Answer) : State := putReply ⟨tag, r.2.code, r.2.payload, false⟩ r.1

/-- SYNC is answered, or parked with its place kept (R169). -/
def answerOrPark (tag : Byte) (r : State × Option Answer) : State :=
  match r.2 with
  | some a => answer tag (r.1, a)
  | none => r.1

/-- A command in hand: its owning rule acts on it and its reply is put into its place (R175, R177). -/
def runCommand (tag : Byte) (c : Command) (s : State) : State :=
  match c with
  | .unknown _ => answer tag (s, ⟨.unknown, []⟩)
  | .malformed => answer tag (s, .bad)
  | .identify leaf => answer tag (s, identifyAnswer leaf)
  | .status => answer tag (s, .okWith (statusReport s))
  | .sensor r => answer tag (cmdSensor r s)
  | .strip r => answer tag (cmdStrip r s)
  | .light r => answer tag (cmdLight r s)
  | .centre r => answer tag (cmdCentre r s)
  | .odometer r => answer tag (cmdOdometer r s)
  | .dark n => answer tag (cmdDark n s)
  | .advisory r => answer tag (cmdAdvisory r s)
  | .preview n => answer tag (cmdPreview n s)
  | .preset x => answer tag (cmdPreset x s)
  | .tableWrite table start values => answer tag (cmdTableWrite table start values s)
  | .tableRead table copy start count => answer tag (cmdTableRead table copy start count s)
  | .commit table expected => answer tag (cmdCommit table expected s)
  | .sync => answerOrPark tag (cmdSync tag s)
  | .calibrate => answer tag (cmdCalibrate s)
  | .start => answer tag (cmdStart s)
  | .stop => answer tag (cmdStop s)
  | .relight => answer tag (cmdRelight s)
  | .hold => answer tag (cmdHold s)
  | .release => answer tag (cmdRelease s)
  | .rerender => answer tag (cmdRerender s)
  | .note text => answer tag (cmdNote text s)
  | .resetStream => answer tag (resetStream s, .ok)
  | .resetFull => answer tag (fullReset s, .ok)

/-- Commands are taken one at a time from the head of the queue, each while a reply place is free (R177); at most `n`. -/
def takeUpTo : Nat → State → State
  | 0, s => s
  | n + 1, s =>
    match s.lnk.cmdQueue with
    | [] => s
    | w :: rest =>
      if placesUsed s < Config.replyPlaces then
        takeUpTo n (runCommand w.tag w.command { s with lnk := { s.lnk with cmdQueue := rest } })
      else s

/-- Every command that can now be taken is taken (R177). -/
def takeCommands (s : State) : State := takeUpTo s.lnk.cmdQueue.length s

/-! ## The command queue and the refusal list (R176) -/

/-- An accepted message meets a full command queue: a refusal, or nothing when the refusal list is full; the overflow
count grows either way. -/
def refuse (tag : Byte) (s : State) : State :=
  let counted : State := { s with lnk := { s.lnk with overflows := satSucc Config.max32 s.lnk.overflows } }
  if refusalsWaiting s < Config.refusalSlots then putReply ⟨tag, .busy, [], true⟩ counted else counted

/-- A command arrives: it joins the tail of the queue and what can be taken is taken, or it is refused (R176, R177). -/
def deliver (w : Waiting) (s : State) : State :=
  if s.lnk.cmdQueue.length < Config.commandSlots then
    takeCommands { s with lnk := { s.lnk with cmdQueue := s.lnk.cmdQueue ++ [w] } }
  else refuse w.tag s

/-! ## The receiver (R173, R174) -/

/-- The receiver moves. -/
def setRx (rx : RxState) (s : State) : State := { s with lnk := { s.lnk with rx := rx } }

/-- The second length byte: PAYLOAD, CHECK, or a length fault (R173, R174). -/
def lengthKnown (kind tag : Byte) (length : Nat) (s : State) : State :=
  if Config.maxPayload < length then
    { s with lnk := { s.lnk with rx := .hunt, lengthFaults := satSucc Config.max32 s.lnk.lengthFaults } }
  else if length = 0 then setRx (.check kind tag [] none) s
  else setRx (.payload kind tag length []) s

/-- A header byte (R173). -/
def headerByte (got : List Byte) (b : Byte) (s : State) : State :=
  match got with
  | [kind, tag, lo] => lengthKnown kind tag (half lo b).toNat s
  | _ => setRx (.header (got ++ [b])) s

/-- A payload byte (R173). -/
def payloadByte (kind tag : Byte) (length : Nat) (got : List Byte) (b : Byte) (s : State) : State :=
  if length ≤ got.length + 1 then setRx (.check kind tag (got ++ [b]) none) s
  else setRx (.payload kind tag length (got ++ [b])) s

/-- A message is judged at its second CRC byte: accepted and counted, or discarded and counted (R174). -/
def judge (kind tag : Byte) (payload : List Byte) (received : BitVec 16) (s : State) : State :=
  if received = crc (covered kind tag payload) then
    deliver ⟨tag, parseCommand kind payload⟩
      { s with lnk := { s.lnk with rx := .hunt, accepted := satSucc Config.max32 s.lnk.accepted } }
  else { s with lnk := { s.lnk with rx := .hunt, crcFaults := satSucc Config.max32 s.lnk.crcFaults } }

/-- A CRC byte (R173). -/
def crcBytes (kind tag : Byte) (payload : List Byte) (low : Option Byte) (b : Byte) (s : State) : State :=
  match low with
  | none => setRx (.check kind tag payload (some b)) s
  | some lo => judge kind tag payload (half lo b) s

/-- A byte arrives on the uplink (R173). -/
def feedByte (s : State) (b : Byte) : State :=
  match s.lnk.rx with
  | .hunt => setRx (if b = 0xA5 then .sync else .hunt) s
  | .sync => setRx (if b = 0x5A then .header [] else if b = 0xA5 then .sync else .hunt) s
  | .header got => headerByte got b s
  | .payload kind tag length got => payloadByte kind tag length got b s
  | .check kind tag payload low => crcBytes kind tag payload low b s

/-- Bytes arrive one after another. -/
def feedBytes (bytes : List Byte) (s : State) : State := bytes.foldl feedByte s

/-- More than 10 ms without a byte: a partial message is discarded and counted; in HUNT there is no effect (R174). -/
def silence (s : State) : State :=
  match s.lnk.rx with
  | .hunt => s
  | _ => { s with lnk := { s.lnk with rx := .hunt, silences := satSucc Config.max32 s.lnk.silences } }

/-- The bytes of a sync pair and the header behind it. -/
def headerBytes (kind tag : Byte) (length : Half) : List Byte :=
  [0xA5, 0x5A, kind, tag] ++ leBytes 2 length.toNat

/-! ## The end of a transmission -/

/-- The downlink is free (R184). -/
def freeDownlink (s : State) : State := { s with lnk := { s.lnk with tx := none } }

/-- A reply has gone out: its place is free, and a command that waits is taken (R177). -/
def replySent (s : State) : State :=
  match s.lnk.tx with
  | some (.reply _) => takeCommands (freeDownlink s)
  | _ => s

/-- A wall report has gone out: its slot is free, the store term follows the fill, and a trial render that waits for a row
slot stores its row (R148). -/
def wallReportSent (s : State) : State :=
  match s.lnk.tx with
  | some (.wall _ _) => resumeTrial (fillChanged { freeDownlink s with rws := s.rws.wallSent })
  | _ => s

/-- A MARKER report has gone out: the UP slot is empty (R27). -/
def markerReportSent (s : State) : State :=
  match s.lnk.tx with
  | some (.marker _) => { freeDownlink s with odo := { s.odo with up := none } }
  | _ => s

/-- A summary or event report has gone out (R185). -/
def controlItemSent (s : State) : State :=
  match s.lnk.tx with
  | some (.control _) => freeDownlink s
  | _ => s

/-- A preview tile has gone out (R156). -/
def previewTileSent (s : State) : State :=
  match s.lnk.tx with
  | some (.tile _) => { freeDownlink s with rws := s.rws.tileSent }
  | _ => s

end Sys2Proof.Machine
end

