-- ==== Sys2Proof/Machine/Commands.lean ====
section
/-! DEFINITION. The meanings of the host's commands: one definition for each command row of spec/opcode_table.json. A row is
the command reaching the command queue (R176); it is taken and answered at once when a reply place is free (R177; log 5), by
the owning rule named with the row (R175). -/

namespace Sys2Proof.Machine

/-- A command with its tag arrives, and the transmitters start what is on offer (R176, R177, R184). -/
def arrive (tag : Byte) (c : Command) (s : State) : State := settle (deliver ⟨tag, c⟩ s)

/-- UNKNOWN_COMMAND (R175). -/
def execUnknownCommand (tag kind : Byte) (s : State) : Host.Outcome State Fault Refusal :=
  .next (arrive tag (.unknown kind) s)

/-- IDENTIFY (R180). -/
def execIdentify (tag leaf : Byte) (s : State) : Host.Outcome State Fault Refusal :=
  .next (arrive tag (.identify leaf) s)

/-- STATUS (R181). -/
def execStatus (tag : Byte) (s : State) : Host.Outcome State Fault Refusal :=
  .next (arrive tag .status s)

/-- SENSOR_RECORD (R35). -/
def execSensorRecord (tag : Byte) (r : SensorFields) (s : State) : Host.Outcome State Fault Refusal :=
  .next (arrive tag (.sensor r) s)

/-- STRIP_RECORD (R6). -/
def execStripRecord (tag : Byte) (r : StripFields) (s : State) : Host.Outcome State Fault Refusal :=
  .next (arrive tag (.strip r) s)

/-- LIGHT_RECORD (R107). -/
def execLightRecord (tag : Byte) (r : LightFields) (s : State) : Host.Outcome State Fault Refusal :=
  .next (arrive tag (.light r) s)

/-- CENTRE_RECORD (R91). -/
def execCentreRecord (tag : Byte) (r : CentreFields) (s : State) : Host.Outcome State Fault Refusal :=
  .next (arrive tag (.centre r) s)

/-- ODOMETER_RECORD (R17). -/
def execOdometerRecord (tag : Byte) (r : OdometerFields) (s : State) : Host.Outcome State Fault Refusal :=
  .next (arrive tag (.odometer r) s)

/-- DARK_RECORD (R64). -/
def execDarkRecord (tag : Byte) (nDark : Half) (s : State) : Host.Outcome State Fault Refusal :=
  .next (arrive tag (.dark nDark) s)

/-- ADVISORY_RECORD (R33). -/
def execAdvisoryRecord (tag : Byte) (r : AdvisoryFields) (s : State) : Host.Outcome State Fault Refusal :=
  .next (arrive tag (.advisory r) s)

/-- PREVIEW_RECORD (R154). -/
def execPreviewRecord (tag : Byte) (nPrev : Half) (s : State) : Host.Outcome State Fault Refusal :=
  .next (arrive tag (.preview nPrev) s)

/-- PRESET_POSITION (R19): a signed value. -/
def execPresetPosition (tag : Byte) (position : Word) (s : State) : Host.Outcome State Fault Refusal :=
  .next (arrive tag (.preset position) s)

/-- TABLE_WRITE (R161). -/
def execTableWrite (tag table : Byte) (start : Half) (values : List Half) (s : State) : Host.Outcome State Fault Refusal :=
  .next (arrive tag (.tableWrite table start values) s)

/-- TABLE_READ (R163). -/
def execTableRead (tag table copy : Byte) (start count : Half) (s : State) : Host.Outcome State Fault Refusal :=
  .next (arrive tag (.tableRead table copy start count) s)

/-- COMMIT (R164). -/
def execCommit (tag table : Byte) (expected : Half) (s : State) : Host.Outcome State Fault Refusal :=
  .next (arrive tag (.commit table expected) s)

/-- SYNC (R169). -/
def execSync (tag : Byte) (s : State) : Host.Outcome State Fault Refusal :=
  .next (arrive tag .sync s)

/-- CALIBRATE (R40). -/
def execCalibrate (tag : Byte) (s : State) : Host.Outcome State Fault Refusal :=
  .next (arrive tag .calibrate s)

/-- START (R37). -/
def execStart (tag : Byte) (s : State) : Host.Outcome State Fault Refusal :=
  .next (arrive tag .start s)

/-- STOP (R38). -/
def execStop (tag : Byte) (s : State) : Host.Outcome State Fault Refusal :=
  .next (arrive tag .stop s)

/-- RELIGHT (R106). -/
def execRelight (tag : Byte) (s : State) : Host.Outcome State Fault Refusal :=
  .next (arrive tag .relight s)

/-- HOLD (R51). -/
def execHold (tag : Byte) (s : State) : Host.Outcome State Fault Refusal :=
  .next (arrive tag .hold s)

/-- RELEASE (R53). -/
def execRelease (tag : Byte) (s : State) : Host.Outcome State Fault Refusal :=
  .next (arrive tag .release s)

/-- RERENDER (R152). -/
def execRerender (tag : Byte) (s : State) : Host.Outcome State Fault Refusal :=
  .next (arrive tag .rerender s)

/-- NOTE (R28). -/
def execNote (tag : Byte) (text : List Byte) (s : State) : Host.Outcome State Fault Refusal :=
  .next (arrive tag (.note text) s)

/-- RESET_STREAM (R182). -/
def execResetStream (tag : Byte) (s : State) : Host.Outcome State Fault Refusal :=
  .next (arrive tag .resetStream s)

/-- RESET_FULL (R183). -/
def execResetFull (tag : Byte) (s : State) : Host.Outcome State Fault Refusal :=
  .next (arrive tag .resetFull s)

end Sys2Proof.Machine
end

