-- ==== Sys2Proof/Machine/Events.lean ====
section
/-! DEFINITION. The meanings of the events: one definition for each event row of spec/opcode_table.json. Each ends with what
the two transmitters start (R184, R23; log 7, log 8). -/

namespace Sys2Proof.Machine

/-- `Q` (2.5). -/
def queryText : List Byte := [0x51]

/-- POWER_ON_RESET (R56). -/
def execPowerOnReset (s : State) : Host.Outcome State Fault Refusal :=
  .next (settle (fullReset s))

/-- ACCEPTED_MESSAGE (R174): the bytes that arrive on the uplink, from the sync pair to the CRC. -/
def execAcceptedMessage (bytes : List Byte) (s : State) : Host.Outcome State Fault Refusal :=
  .next (settle (feedBytes bytes s))

/-- SILENCE (R174). -/
def execSilence (s : State) : Host.Outcome State Fault Refusal :=
  .next (settle (silence s))

/-- FRAME_TIMER_EXPIRY (R42). -/
def execFrameTimerExpiry (s : State) : Host.Outcome State Fault Refusal :=
  .next (settle (timerExpiry s))

/-- EXPOSURE_MIDPOINT (R46). -/
def execExposureMidpoint (s : State) : Host.Outcome State Fault Refusal :=
  .next (settle (exposureMidpoint s))

/-- EXPOSURE_END (R46). -/
def execExposureEnd (s : State) : Host.Outcome State Fault Refusal :=
  .next (settle (exposureEnd s))

/-- READOUT_COMPLETION (R47): the raw samples the sensor delivered, row by row, top row first. -/
def execReadoutCompletion (raw : List (List Sample)) (s : State) : Host.Outcome State Fault Refusal :=
  .next (settle (readoutCompletion raw s))

/-- ROW_COMPLETION (R72). -/
def execRowCompletion (s : State) : Host.Outcome State Fault Refusal :=
  .next (settle (rowCompletion s))

/-- TRIAL_ROW_COMPLETION (R153). -/
def execTrialRowCompletion (s : State) : Host.Outcome State Fault Refusal :=
  .next (settle (trialRowCompletion s))

/-- REPLY_TRANSMITTED (R177). -/
def execReplyTransmitted (s : State) : Host.Outcome State Fault Refusal :=
  .next (settle (replySent s))

/-- WALL_REPORT_TRANSMITTED (R148). -/
def execWallReportTransmitted (s : State) : Host.Outcome State Fault Refusal :=
  .next (settle (wallReportSent s))

/-- MARKER_REPORT_TRANSMITTED (R27). -/
def execMarkerReportTransmitted (s : State) : Host.Outcome State Fault Refusal :=
  .next (settle (markerReportSent s))

/-- CONTROL_ITEM_TRANSMITTED (R185). -/
def execControlItemTransmitted (s : State) : Host.Outcome State Fault Refusal :=
  .next (settle (controlItemSent s))

/-- PREVIEW_TILE_TRANSMITTED (R156). -/
def execPreviewTileTransmitted (s : State) : Host.Outcome State Fault Refusal :=
  .next (settle (previewTileSent s))

/-- QUADRATURE_TRANSITION (R15): the levels of lines A and B after the change. -/
def execQuadratureTransition (a b : Bool) (s : State) : Host.Outcome State Fault Refusal :=
  .next (settle ({ s with odo := s.odo.transition a b }))

/-- SPEED_WINDOW_EXPIRY (R21). -/
def execSpeedWindowExpiry (s : State) : Host.Outcome State Fault Refusal :=
  .next (settle ({ s with odo := s.odo.closeWindow }))

/-- ROLL_LINE (R24): the digits of an `A` line. -/
def execRollLine (digits : List Byte) (s : State) : Host.Outcome State Fault Refusal :=
  .next (settle (receiveLine (cleanLine (rollText digits)) s))

/-- MARKER_LINE (R26): the code of an `M` line. -/
def execMarkerLine (code : List Byte) (s : State) : Host.Outcome State Fault Refusal :=
  .next (settle (receiveLine (cleanLine (markerText code)) s))

/-- Q_LINE (R29). -/
def execQLine (s : State) : Host.Outcome State Fault Refusal :=
  .next (settle (receiveLine (cleanLine queryText) s))

/-- MALFORMED_LINE (R22): the characters of a line before its LF, and whether the LF has come. -/
def execMalformedLine (part : LinePart) (s : State) : Host.Outcome State Fault Refusal :=
  .next (settle (if part.ended then receiveLine part.chars s else gatherLine part.chars s))

/-- PORT_LINE_TRANSMITTED (R23). -/
def execPortLineTransmitted (s : State) : Host.Outcome State Fault Refusal :=
  .next (settle ({ s with odo := s.odo.lineSent }))

/-- ADVISORY_REPEAT_EXPIRY (R32). -/
def execAdvisoryRepeatExpiry (s : State) : Host.Outcome State Fault Refusal :=
  .next (settle ({ s with odo := { s.odo with advisoryDue := true } }))

/-- HEADER_LENGTH_FAULT (R174): the header that arrives after a sync pair. -/
def execHeaderLengthFault (kind tag : Byte) (length : Half) (s : State) : Host.Outcome State Fault Refusal :=
  .next (settle (feedBytes (headerBytes kind tag length) s))

end Sys2Proof.Machine
end

