-- ==== Sys2Proof/Machine/Dispatch.lean ====
section
/-! DEFINITION. The meaning of every command and event: one arm per row of spec/opcode_table.json. -/

namespace Sys2Proof.Machine

def exec (i : Instr) (s : State) : Host.Outcome State Fault Refusal :=
  match i with
  | .powerOnReset => Sys2Proof.Machine.execPowerOnReset s
  | .acceptedMessage bytes => Sys2Proof.Machine.execAcceptedMessage bytes s
  | .silence => Sys2Proof.Machine.execSilence s
  | .unknownCommand tag kind => Sys2Proof.Machine.execUnknownCommand tag kind s
  | .identify tag leaf => Sys2Proof.Machine.execIdentify tag leaf s
  | .status tag => Sys2Proof.Machine.execStatus tag s
  | .sensorRecord tag r => Sys2Proof.Machine.execSensorRecord tag r s
  | .stripRecord tag r => Sys2Proof.Machine.execStripRecord tag r s
  | .lightRecord tag r => Sys2Proof.Machine.execLightRecord tag r s
  | .centreRecord tag r => Sys2Proof.Machine.execCentreRecord tag r s
  | .odometerRecord tag r => Sys2Proof.Machine.execOdometerRecord tag r s
  | .darkRecord tag nDark => Sys2Proof.Machine.execDarkRecord tag nDark s
  | .advisoryRecord tag r => Sys2Proof.Machine.execAdvisoryRecord tag r s
  | .previewRecord tag nPrev => Sys2Proof.Machine.execPreviewRecord tag nPrev s
  | .presetPosition tag position => Sys2Proof.Machine.execPresetPosition tag position s
  | .tableWrite tag table start values => Sys2Proof.Machine.execTableWrite tag table start values s
  | .tableRead tag table copy start count => Sys2Proof.Machine.execTableRead tag table copy start count s
  | .commit tag table expected => Sys2Proof.Machine.execCommit tag table expected s
  | .sync tag => Sys2Proof.Machine.execSync tag s
  | .calibrate tag => Sys2Proof.Machine.execCalibrate tag s
  | .start tag => Sys2Proof.Machine.execStart tag s
  | .stop tag => Sys2Proof.Machine.execStop tag s
  | .relight tag => Sys2Proof.Machine.execRelight tag s
  | .hold tag => Sys2Proof.Machine.execHold tag s
  | .release tag => Sys2Proof.Machine.execRelease tag s
  | .rerender tag => Sys2Proof.Machine.execRerender tag s
  | .note tag text => Sys2Proof.Machine.execNote tag text s
  | .resetStream tag => Sys2Proof.Machine.execResetStream tag s
  | .resetFull tag => Sys2Proof.Machine.execResetFull tag s
  | .frameTimerExpiry => Sys2Proof.Machine.execFrameTimerExpiry s
  | .exposureMidpoint => Sys2Proof.Machine.execExposureMidpoint s
  | .exposureEnd => Sys2Proof.Machine.execExposureEnd s
  | .readoutCompletion raw => Sys2Proof.Machine.execReadoutCompletion raw s
  | .rowCompletion => Sys2Proof.Machine.execRowCompletion s
  | .trialRowCompletion => Sys2Proof.Machine.execTrialRowCompletion s
  | .replyTransmitted => Sys2Proof.Machine.execReplyTransmitted s
  | .wallReportTransmitted => Sys2Proof.Machine.execWallReportTransmitted s
  | .markerReportTransmitted => Sys2Proof.Machine.execMarkerReportTransmitted s
  | .controlItemTransmitted => Sys2Proof.Machine.execControlItemTransmitted s
  | .previewTileTransmitted => Sys2Proof.Machine.execPreviewTileTransmitted s
  | .quadratureTransition a b => Sys2Proof.Machine.execQuadratureTransition a b s
  | .speedWindowExpiry => Sys2Proof.Machine.execSpeedWindowExpiry s
  | .rollLine digits => Sys2Proof.Machine.execRollLine digits s
  | .markerLine code => Sys2Proof.Machine.execMarkerLine code s
  | .qLine => Sys2Proof.Machine.execQLine s
  | .malformedLine part => Sys2Proof.Machine.execMalformedLine part s
  | .portLineTransmitted => Sys2Proof.Machine.execPortLineTransmitted s
  | .advisoryRepeatExpiry => Sys2Proof.Machine.execAdvisoryRepeatExpiry s
  | .headerLengthFault kind tag length => Sys2Proof.Machine.execHeaderLengthFault kind tag length s

end Sys2Proof.Machine
end

