-- ==== Sys2Proof/Machine/Step.lean ====
section
/-! DEFINITION. One step of the part: the step at the front of the queue, or one millisecond in which nothing comes. -/

namespace Sys2Proof.Machine

/-- One millisecond passes with no command and no event: the age of the roll reading grows (R24; log 2). -/
def tick (s : State) : State := { s with odo := { s.odo with rollAge := s.odo.rollAge + 1 } }

/-- Take the step at the front of the queue; on an empty queue a millisecond passes (log 2). -/
def step (s : State) : Host.Outcome State Fault Refusal :=
  match s.pending with
  | [] => .next (tick s)
  | c :: rest => exec c { s with pending := rest }

/-- The state with the command a word spells put at the front of its queue; no word spells one. -/
def State.withFetchWord (s : State) (nbits w : Nat) : State :=
  match decodeTableWord nbits w with
  | some c => { s with pending := c :: s.pending }
  | none => s

end Sys2Proof.Machine
end

