-- ==== Sys2Proof/Machine/Encode.lean ====
section
/-! DEFINITION. The host's side of the uplink: the kind and the payload by which a command is sent (11.2, 11 R179, R182,
R189). The part never computes these; the statements use them. -/

namespace Sys2Proof.Machine

/-- The two bytes of a two-byte field, least significant first (R172). -/
def halfBytes (h : Half) : List Byte := [h.extractLsb' 0 8, h.extractLsb' 8 8]

/-- The four bytes of a four-byte field, least significant first (R172). -/
def wordBytes (w : Word) : List Byte :=
  [w.extractLsb' 0 8, w.extractLsb' 8 8, w.extractLsb' 16 8, w.extractLsb' 24 8]

/-- The kind byte and the payload of a command; a pad is sent as 0 (R189). `unknown` is sent with an empty payload, and
`malformed` as an IDENTIFY without a leaf. -/
def encodeCommand : Command → Byte × List Byte
  | .unknown kind => (kind, [])
  | .malformed => (0x01, [])
  | .identify leaf => (0x01, [leaf])
  | .status => (0x02, [])
  | .sensor r =>
    (0x03, 1 :: (halfBytes r.width ++ halfBytes r.height ++ halfBytes r.period ++ halfBytes r.exposure ++ [r.source]))
  | .strip r =>
    (0x03, 2 :: (halfBytes r.w ++ halfBytes r.b0 ++ halfBytes r.b1 ++ [r.p, r.depth] ++ wordBytes r.z0
      ++ halfBytes r.mount ++ halfBytes r.fill))
  | .light r => (0x03, 3 :: (halfBytes r.t ++ halfBytes r.tol ++ halfBytes r.cap ++ halfBytes r.start))
  | .centre r =>
    (0x03, 4 :: (halfBytes r.cx ++ halfBytes r.cy ++ [r.follow, 0] ++ halfBytes r.threshold
      ++ halfBytes r.mincount ++ halfBytes r.maxoff))
  | .odometer r => (0x03, 5 :: ([r.sign, 0] ++ halfBytes r.step ++ wordBytes r.zm))
  | .dark n => (0x03, 6 :: halfBytes n)
  | .advisory r => (0x03, 7 :: (halfBytes r.tResume ++ halfBytes r.tSlow ++ halfBytes r.tHold))
  | .preview n => (0x03, 8 :: halfBytes n)
  | .preset position => (0x04, wordBytes position)
  | .tableWrite table start values => (0x05, table :: 0 :: (halfBytes start ++ values.flatMap halfBytes))
  | .tableRead table copy start count => (0x06, table :: copy :: (halfBytes start ++ halfBytes count))
  | .commit table expected => (0x07, table :: 0 :: halfBytes expected)
  | .sync => (0x08, [])
  | .calibrate => (0x09, [])
  | .start => (0x0A, [])
  | .stop => (0x0B, [])
  | .relight => (0x0C, [])
  | .hold => (0x0D, [])
  | .release => (0x0E, [])
  | .rerender => (0x0F, [])
  | .note text => (0x10, text)
  | .resetStream => (0x11, [0])
  | .resetFull => (0x11, [1])

/-- The commands a message can carry: a kind that is none of the seventeen, 1 to 1024 table values, 1 to 32 bytes of text
(11.2, R175, R189). -/
def fitsMessage : Command → Bool
  | .unknown kind => !(0x01 ≤ kind.toNat && kind.toNat ≤ 0x11)
  | .tableWrite _ _ values => 1 ≤ values.length && values.length ≤ 1024
  | .note text => 1 ≤ text.length && text.length ≤ 32
  | _ => true

end Sys2Proof.Machine
end

