-- ==== Sys2Proof/Safety.lean ====
section
/-! DEFINITION. The words the statements use: when a command is taken at once, what an answered command leaves, and the
invariants of the part that every step keeps. -/

namespace Sys2Proof.Machine

/-! ## How a command is answered -/

/-- A command that arrives is taken at once: none waits ahead of it, and a reply place is free (R176, R177). -/
abbrev Ready (s : State) : Prop := s.lnk.cmdQueue = [] ∧ placesUsed s < Config.replyPlaces

/-- The state after a command's own effect `s`: its reply is in its place, and the transmitters have started what is on
offer (R177, R184, R23). -/
def replied (tag : Byte) (code : ReplyCode) (payload : List Byte) (s : State) : State :=
  settle (putReply ⟨tag, code, payload, false⟩ s)

/-- The part with its two transmitters and what they draw on left out of sight: what a step changes outside this is what it
does to the part itself. -/
def State.withoutTransmitters (s : State) : State :=
  { s with
    odo := { s.odo with portTx := none, responses := [], advisoryDue := false }
    rws := { s.rws with
      wallSending := false
      seq := 0
      preview := s.rws.preview.map (fun p => { p with sending := false }) }
    lnk := { s.lnk with tx := none, replies := [], controlQueue := [], pointer := .wall } }

/-- The fields of a layout (R189): each its size in bytes and its value, laid one behind the other, least significant byte
first, a negative value in two's complement (R172). -/
def laidOut (fields : List (Nat × Int)) : List Byte := fields.flatMap (fun f => leInt f.1 f.2)

/-- The two fields of a quantity that can be absent (R189): its presence mark and its value, 0 when it is absent. -/
def presenceFields (size : Nat) : Option Int → List (Nat × Int)
  | some v => [(1, 1), (size, v)]
  | none => [(1, 0), (size, 0)]

/-- Nothing is on offer to a transmitter that is idle (R184, R23). -/
abbrev Settled (s : State) : Prop :=
  (s.lnk.tx = none → s.lnk.replies = [] ∧ turn s = none)
    ∧ (s.odo.portTx = none → s.odo.advisoryDue = false ∧ s.odo.responses = [])

/-! ## Invariants -/

/-- R142: at most 1024 entries, of which at most 1008 are row entries. -/
abbrev StoreWithinLimits (s : State) : Prop :=
  s.rws.fill ≤ Config.storeSlots ∧ s.rws.rowCount ≤ Config.rowLimit

/-- The sizes of the queues (R23, R176, R177, R185), and that a command waits only while no reply place is free (R177). -/
abbrev QueuesWithinLimits (s : State) : Prop :=
  s.lnk.cmdQueue.length ≤ Config.commandSlots
    ∧ placesUsed s ≤ Config.replyPlaces
    ∧ (s.lnk.cmdQueue ≠ [] → placesUsed s = Config.replyPlaces)
    ∧ refusalsWaiting s ≤ Config.refusalSlots
    ∧ s.lnk.controlQueue.length ≤ Config.controlSlots
    ∧ s.odo.responses.length ≤ Config.responseSlots

/-- The bounds of X (R15), the drift (R59), the speed estimate (R21), the held roll (R24) and the ODOMETER record (R17). -/
abbrev MeasuresWithinBounds (s : State) : Prop :=
  Config.xMin ≤ s.odo.x ∧ s.odo.x ≤ Config.xMax
    ∧ -1024 ≤ s.blk.drift ∧ s.blk.drift ≤ 1024
    ∧ -32768 ≤ s.odo.speed ∧ s.odo.speed ≤ 32767
    ∧ s.odo.roll ≤ 4095
    ∧ (s.odo.odometer.sign = 1 ∨ s.odo.odometer.sign = -1)
    ∧ -1024 ≤ s.odo.odometer.step ∧ s.odo.odometer.step ≤ 1024
    ∧ 0 ≤ s.odo.odometer.zm ∧ s.odo.odometer.zm ≤ 65535

/-- The power cap (R114, R45): neither the drives nor what lights the ring sums above it. -/
abbrev PowerWithinCap (s : State) : Prop :=
  s.ilc.drives.sum ≤ s.ilc.light.cap ∧ s.fsq.led.sum ≤ s.ilc.light.cap

/-- The statistics and trims of a render in flight cover eight sectors (R80, R69). -/
abbrev Geo.EightSectors (g : Geo) : Prop :=
  match g with
  | .render w => w.stats.length = 8 ∧ w.context.trims.length = 8
  | .idle => True
  | .trial _ => True
  | .trialWait _ _ => True

/-- Everything that is kept for each sector is kept for eight (R45, R101, R102, R103, R44, R80). -/
abbrev SectorsComplete (s : State) : Prop :=
  s.fsq.led.length = 8 ∧ s.ilc.drives.length = 8 ∧ s.ilc.trims.length = 8
    ∧ (∀ b ∈ s.fsq.buffers.all, ∀ r ∈ b.record?, r.drives.length = 8)
    ∧ (∀ u ∈ s.ilc.lastUpdate, u.sectors.length = 8)
    ∧ s.geo.EightSectors

/-- Drives of 0 to 1023 (R101), trims of 4096 to 16383 (R102, R116), a LIGHT record in its ranges (R107). -/
abbrev LightWithinRange (s : State) : Prop :=
  SectorsComplete s
    ∧ (∀ d ∈ s.ilc.drives, d ≤ 1023)
    ∧ (∀ t ∈ s.ilc.trims, 4096 ≤ t ∧ t ≤ 16383)
    ∧ 256 ≤ s.ilc.light.t ∧ s.ilc.light.t ≤ 3840 ∧ 8 ≤ s.ilc.light.tol ∧ s.ilc.light.tol ≤ 512
    ∧ 128 ≤ s.ilc.light.cap ∧ s.ilc.light.cap ≤ 8184 ∧ 16 ≤ s.ilc.light.start ∧ s.ilc.light.start ≤ 1023

/-- The timer runs in CALIBRATING and STREAMING alone (R34, R41), the loop is DARK outside STREAMING (R104), the level is
HOLD outside STREAMING and formed from the two terms in it (R32), UNCONFIGURED is the state without a SENSOR record (R34,
R35), and a stream runs with a STRIP record, a PROFILE and a calibration (R37). -/
abbrev StateCoherent (s : State) : Prop :=
  (s.fsq.timer.isSome = true ↔ s.fsq.opState = .calibrating ∨ s.fsq.opState = .streaming)
    ∧ (s.ilc.loop = .dark ↔ s.fsq.opState ≠ .streaming)
    ∧ s.odo.level = s.odo.formedLevel s.fsq.opState
    ∧ (s.fsq.opState = .unconfigured ↔ s.fsq.sensorHeld = false)
    ∧ (s.fsq.opState = .streaming → s.strip.held = true ∧ 0 < s.tbu.profile.gen ∧ s.blk.calValid = true)

/-- The kind of the exposure in flight fits the operating state (R34). -/
abbrev Buffer.fitsState (op : OpState) (b : Buffer) : Prop :=
  match b with
  | .exposing r _ =>
    match r.kind with
    | .stream => op = .streaming ∨ op = .stopping
    | .dark => op = .streaming ∨ op = .stopping
    | .calibration => op = .calibrating
    | .hold => op = .idle
  | .ready _ => op = .streaming
  | .rendering _ => op = .streaming ∨ op = .stopping
  | .free => True
  | .held _ => True

/-- What GEO works on (R68): a render has its buffer RENDERING, a trial its buffer HELD, each with a row in hand; with GEO
idle or in a trial nothing is RENDERING, and a trial runs in IDLE or CALIBRATING alone (R152, R40). -/
abbrev Geo.fitsBuffers (g : Geo) (op : OpState) (b : Buffers) : Prop :=
  match g with
  | .idle => b.anyRendering = false
  | .render w => (b.get w.buffer).rendering?.isSome = true ∧ w.done < w.rows.length
  | .trial w =>
    (b.get w.buffer).held?.isSome = true ∧ b.anyRendering = false ∧ w.done < w.rows.length
      ∧ (op = .idle ∨ op = .calibrating)
  | .trialWait w _ =>
    (b.get w.buffer).held?.isSome = true ∧ b.anyRendering = false ∧ w.done < w.rows.length
      ∧ (op = .idle ∨ op = .calibrating)

/-- The three buffers (R48): at most one EXPOSING, one RENDERING, one HELD, each where the operating state allows it; the
READY buffers stand once each in their order (R49), and none waits while GEO is idle; a hold mark stands in STREAMING or
STOPPING with no buffer HELD (R51), and a HOLD exposure with no buffer HELD (R52). -/
abbrev BuffersCoherent (s : State) : Prop :=
  s.fsq.buffers.count (fun b => b.exposing?.isSome) ≤ 1
    ∧ s.fsq.buffers.count (fun b => b.rendering?.isSome) ≤ 1
    ∧ s.fsq.buffers.count (fun b => b.held?.isSome) ≤ 1
    ∧ (∀ b ∈ s.fsq.buffers.all, b.fitsState s.fsq.opState)
    ∧ s.geo.fitsBuffers s.fsq.opState s.fsq.buffers
    ∧ s.fsq.readyOrder.Nodup
    ∧ (∀ i ∈ [BufferId.b0, .b1, .b2],
        i ∈ s.fsq.readyOrder ↔ (s.fsq.buffers.get i).ready?.isSome = true)
    ∧ (s.geo = .idle → s.fsq.readyOrder = [])
    ∧ (s.fsq.holdMark = true →
        (s.fsq.opState = .streaming ∨ s.fsq.opState = .stopping) ∧ s.fsq.buffers.anyHeld = false)
    ∧ (s.fsq.buffers.holdInFlight = true → s.fsq.buffers.anyHeld = false)

/-- The sizes of the copies and the ranges of their entries (R159), and the generation (R160). -/
abbrev TableState.wellFormed (t : TableState) (i : TableId) : Prop :=
  t.active.length = i.entries ∧ t.pending.length = i.entries
    ∧ (∀ v ∈ t.active, v ≤ i.top) ∧ (∀ v ∈ t.pending, v ≤ i.top) ∧ t.gen ≤ 65535

/-- The tables keep their sizes and ranges (R159), and BLK a sum for each of the 1600 columns (R60). -/
abbrev TablesWellFormed (s : State) : Prop :=
  s.tbu.profile.wellFormed .profile ∧ s.tbu.shade.wellFormed .shade ∧ s.tbu.column.wellFormed .column
    ∧ s.blk.colSums.length = Config.columnEntries

/-- Outside STREAMING no PROFILE or SHADE commit stays armed (R165), nor a COLUMN commit while no buffer is EXPOSING (R166);
an armed PROFILE or SHADE commit passes its second check (R167); a SYNC is parked only while a commit is armed (R169). -/
abbrev CommitsDoNotLinger (s : State) : Prop :=
  (s.fsq.opState ≠ .streaming → s.tbu.profile.armed = none ∧ s.tbu.shade.armed = none)
    ∧ (s.fsq.opState ≠ .streaming → s.fsq.buffers.anyExposing = false → s.tbu.column.armed = none)
    ∧ (∀ e ∈ s.tbu.profile.armed, e = s.tbu.profile.gen)
    ∧ (∀ e ∈ s.tbu.shade.armed, e = s.tbu.shade.gen)
    ∧ (s.tbu.parked.isSome = true → s.tbu.anyArmed = true)

/-- The STRIP record in its ranges (R5, R6); before one is held its fields are those of R9. -/
abbrev StripWithinRange (s : State) : Prop :=
  s.strip.record.b0 ≤ s.strip.record.b1 ∧ s.strip.record.b1 ≤ 511 ∧ s.strip.record.p ≤ 64
    ∧ 0 ≤ s.strip.record.z0 ∧ s.strip.record.z0 ≤ 65535 ∧ s.strip.record.mount ≤ 4095 ∧ s.strip.record.fill ≤ 4095
    ∧ (s.strip.record.depth = 12 ∨ s.strip.record.depth = 8)
    ∧ (s.strip.held = true →
        1 ≤ s.strip.record.p
          ∧ (s.strip.record.w = 512 ∨ s.strip.record.w = 1024 ∨ s.strip.record.w = 2048))

/-- The ring has its 4096 entries; the explored span, when there is one, lies inside the coverage window (R128) and inside
the ever-explored range. -/
abbrev CoverageCoherent (s : State) : Prop :=
  s.cvt.ring.length = Config.ringRows
    ∧ (∀ r ∈ s.cvt.span, r.1 ≤ r.2 ∧ s.cvt.wb ≤ r.1 ∧ r.2 ≤ s.cvt.wb + 4095)
    ∧ (∀ r ∈ s.cvt.span, ∀ e ∈ s.cvt.ever, e.1 ≤ r.1 ∧ r.2 ≤ e.2)
    ∧ (s.cvt.span = none ↔ s.cvt.ever = none)

/-- The rows of a render in flight are accounted for (R137, R131): its list is the take list with a meter row where one is
needed (R71), no index stands in the take list twice, none of those still to come is FIRM, and each row completed has added
one to taken, retaken, rejected or store skips. -/
abbrev TakesAccounted (s : State) : Prop :=
  match s.geo with
  | .render w =>
    w.rows = rowList s.cvt.takeList w.context.b0 w.context.b1
      ∧ (s.cvt.takeList.map (·.1)).Nodup
      ∧ (∀ p ∈ s.cvt.takeList.drop w.done, (s.cvt.entryOf p.1).state ≠ .firm)
      ∧ s.cvt.counts.taken + s.cvt.counts.retaken + s.cvt.counts.rejected + s.cvt.counts.skips
        = min w.done s.cvt.takeList.length
  | .idle => True
  | .trial _ => True
  | .trialWait _ _ => True

end Sys2Proof.Machine
end

