-- ==== Sys2Proof/Certificates/Slice0/Obligations.lean ====
section
/-! DEFINITION. The statements for the provers. Where a statement gives the next state of a command as `replied …` or
`settle …` of a record update, everything the update does not name is unchanged: that is its frame. What `settle` may touch
is stated by SettleStartsOnlyWhatIsOnOffer. -/

open Sys2Proof Sys2Proof.Machine

/-! ## The step and the queue -/

/-- A step runs the command at the front of the queue, with the queue's rest. -/
def Obligations.StepTakesTheFrontCommand : Prop :=
  ∀ (c : Instr) (s : State), step { s with pending := c :: s.pending } = exec c s

/-- Every command and every event completes in every state: nothing stops the part. -/
def Obligations.EveryStepCompletes : Prop :=
  ∀ (c : Instr) (s : State), ∃ t, exec c s = .next t

/-- Each command row is that command reaching the command queue: log 5. R176, R177: a command that arrives is taken,
or waits while no reply place is free, or is refused when four wait; with the refusal list full it is discarded. The
overflow count stays at its top: log 17. R177: while a reply place is free, the command at the head of the queue is
taken, and then the next. R176, R177: which replies wait as refusals, and what keeps a reply place: a reply that waits, one
in transmission, a parked SYNC; a reply that is put joins behind the others. -/
def Obligations.CommandsArriveAndAreTakenInOrder : Prop :=
  (∀ (tag : Byte) (s : State),
      (∀ kind, exec (.unknownCommand tag kind) s = .next (settle (deliver ⟨tag, .unknown kind⟩ s)))
      ∧ (∀ leaf, exec (.identify tag leaf) s = .next (settle (deliver ⟨tag, .identify leaf⟩ s)))
      ∧ exec (.status tag) s = .next (settle (deliver ⟨tag, .status⟩ s))
      ∧ (∀ r, exec (.sensorRecord tag r) s = .next (settle (deliver ⟨tag, .sensor r⟩ s)))
      ∧ (∀ r, exec (.stripRecord tag r) s = .next (settle (deliver ⟨tag, .strip r⟩ s)))
      ∧ (∀ r, exec (.lightRecord tag r) s = .next (settle (deliver ⟨tag, .light r⟩ s)))
      ∧ (∀ r, exec (.centreRecord tag r) s = .next (settle (deliver ⟨tag, .centre r⟩ s)))
      ∧ (∀ r, exec (.odometerRecord tag r) s = .next (settle (deliver ⟨tag, .odometer r⟩ s)))
      ∧ (∀ n, exec (.darkRecord tag n) s = .next (settle (deliver ⟨tag, .dark n⟩ s)))
      ∧ (∀ r, exec (.advisoryRecord tag r) s = .next (settle (deliver ⟨tag, .advisory r⟩ s)))
      ∧ (∀ n, exec (.previewRecord tag n) s = .next (settle (deliver ⟨tag, .preview n⟩ s)))
      ∧ (∀ x, exec (.presetPosition tag x) s = .next (settle (deliver ⟨tag, .preset x⟩ s)))
      ∧ (∀ t i vs, exec (.tableWrite tag t i vs) s = .next (settle (deliver ⟨tag, .tableWrite t i vs⟩ s)))
      ∧ (∀ t k i n, exec (.tableRead tag t k i n) s = .next (settle (deliver ⟨tag, .tableRead t k i n⟩ s)))
      ∧ (∀ t e, exec (.commit tag t e) s = .next (settle (deliver ⟨tag, .commit t e⟩ s)))
      ∧ exec (.sync tag) s = .next (settle (deliver ⟨tag, .sync⟩ s))
      ∧ exec (.calibrate tag) s = .next (settle (deliver ⟨tag, .calibrate⟩ s))
      ∧ exec (.start tag) s = .next (settle (deliver ⟨tag, .start⟩ s))
      ∧ exec (.stop tag) s = .next (settle (deliver ⟨tag, .stop⟩ s))
      ∧ exec (.relight tag) s = .next (settle (deliver ⟨tag, .relight⟩ s))
      ∧ exec (.hold tag) s = .next (settle (deliver ⟨tag, .hold⟩ s))
      ∧ exec (.release tag) s = .next (settle (deliver ⟨tag, .release⟩ s))
      ∧ exec (.rerender tag) s = .next (settle (deliver ⟨tag, .rerender⟩ s))
      ∧ (∀ text, exec (.note tag text) s = .next (settle (deliver ⟨tag, .note text⟩ s)))
      ∧ exec (.resetStream tag) s = .next (settle (deliver ⟨tag, .resetStream⟩ s))
      ∧ exec (.resetFull tag) s = .next (settle (deliver ⟨tag, .resetFull⟩ s)))
  ∧ (∀ (tag : Byte) (c : Command) (s : State),
      (Ready s → deliver ⟨tag, c⟩ s = runCommand tag c s)
      ∧ (s.lnk.cmdQueue.length < 4 →
          deliver ⟨tag, c⟩ s =
            takeCommands { s with lnk := { s.lnk with cmdQueue := s.lnk.cmdQueue ++ [⟨tag, c⟩] } })
      ∧ (4 ≤ s.lnk.cmdQueue.length → refusalsWaiting s < 8192 →
          deliver ⟨tag, c⟩ s =
            { s with
              lnk := { s.lnk with
                overflows := min (s.lnk.overflows + 1) 4294967295
                replies := s.lnk.replies ++ [⟨tag, .busy, [], true⟩] } })
      ∧ (4 ≤ s.lnk.cmdQueue.length → 8192 ≤ refusalsWaiting s →
          deliver ⟨tag, c⟩ s = { s with lnk := { s.lnk with overflows := min (s.lnk.overflows + 1) 4294967295 } }))
  ∧ (∀ (w : Waiting) (rest : List Waiting) (s : State),
      s.lnk.cmdQueue = w :: rest →
      (placesUsed s < 8 →
          takeCommands s =
            takeCommands (runCommand w.tag w.command { s with lnk := { s.lnk with cmdQueue := rest } }))
      ∧ (8 ≤ placesUsed s → takeCommands s = s))
  ∧ (∀ s : State, s.lnk.cmdQueue = [] → takeCommands s = s)
  ∧ ∀ s : State,
      refusalsWaiting s = s.lnk.replies.countP (fun r => r.refusal)
      ∧ placesUsed s =
          s.lnk.replies.countP (fun r => !r.refusal)
            + (match s.lnk.tx with
              | some (.reply r) => if r.refusal then 0 else 1
              | _ => 0)
            + (if s.tbu.parked = none then 0 else 1)
      ∧ ∀ r, putReply r s = { s with lnk := { s.lnk with replies := s.lnk.replies ++ [r] } }

/-! ## The receiver -/

/-- R172, R173, R174: the receiver hunting for sync accepts every whole message with at most 4096 bytes of payload, whatever
its kind, counts it, and hands on the command its payload spells; bytes before it in which no sync pair stands are passed
over, a 0xA5 just before the sync pair among them. The row feeds its bytes to the receiver: log 6; the accepted count stays
at its top: log 17. -/
def Obligations.WholeMessageIsAccepted : Prop :=
  ∀ (kind tag : Byte) (noise payload : List Byte) (s : State),
    s.lnk.rx = .hunt → payload.length ≤ 4096 → (∀ front behind, noise ≠ front ++ 0xA5 :: 0x5A :: behind) →
    let covered := [kind, tag] ++ leBytes 2 payload.length ++ payload
    exec (.acceptedMessage (noise ++ [0xA5, 0x5A] ++ covered ++ leBytes 2 (crc covered).toNat)) s =
      .next (settle (deliver ⟨tag, parseCommand kind payload⟩
        { s with lnk := { s.lnk with accepted := min (s.lnk.accepted + 1) 4294967295 } }))

/-- R175, R179, R182, R189: the payload by which the host sends a command, laid out field by field, is read as that command,
with every field at every value, and fits a message. R175 steps 1 and 2: a kind outside 0x01 to 0x11 is unknown, and a
payload is malformed exactly when its length is none that the layout of its kind allows, when its record code names no record
(R179), or when its reset variant is above 1 (R182). R189: a pad byte is not read. -/
def Obligations.PayloadSpellsItsCommand : Prop :=
  (∀ c : Command, fitsMessage c = true →
      parseCommand (encodeCommand c).1 (encodeCommand c).2 = c ∧ (encodeCommand c).2.length ≤ 4096)
  ∧ (let sent (c : Command) (kind : Byte) (fields : List (Nat × Nat)) : Prop :=
      encodeCommand c = (kind, fields.flatMap (fun f => leBytes f.1 f.2))
    (∀ leaf : Byte, sent (.identify leaf) 0x01 [(1, leaf.toNat)])
    ∧ [Command.status, .sync, .calibrate, .start, .stop, .relight, .hold, .release, .rerender].map encodeCommand
        = [0x02, 0x08, 0x09, 0x0A, 0x0B, 0x0C, 0x0D, 0x0E, 0x0F].map (fun kind => (kind, []))
    ∧ (∀ r, sent (.sensor r) 0x03
        [(1, 1), (2, r.width.toNat), (2, r.height.toNat), (2, r.period.toNat), (2, r.exposure.toNat), (1, r.source.toNat)])
    ∧ (∀ r, sent (.strip r) 0x03
        [(1, 2), (2, r.w.toNat), (2, r.b0.toNat), (2, r.b1.toNat), (1, r.p.toNat), (1, r.depth.toNat), (4, r.z0.toNat),
          (2, r.mount.toNat), (2, r.fill.toNat)])
    ∧ (∀ r, sent (.light r) 0x03 [(1, 3), (2, r.t.toNat), (2, r.tol.toNat), (2, r.cap.toNat), (2, r.start.toNat)])
    ∧ (∀ r, sent (.centre r) 0x03
        [(1, 4), (2, r.cx.toNat), (2, r.cy.toNat), (1, r.follow.toNat), (1, 0), (2, r.threshold.toNat),
          (2, r.mincount.toNat), (2, r.maxoff.toNat)])
    ∧ (∀ r, sent (.odometer r) 0x03 [(1, 5), (1, r.sign.toNat), (1, 0), (2, r.step.toNat), (4, r.zm.toNat)])
    ∧ (∀ n, sent (.dark n) 0x03 [(1, 6), (2, n.toNat)])
    ∧ (∀ r, sent (.advisory r) 0x03 [(1, 7), (2, r.tResume.toNat), (2, r.tSlow.toNat), (2, r.tHold.toNat)])
    ∧ (∀ n, sent (.preview n) 0x03 [(1, 8), (2, n.toNat)])
    ∧ (∀ x, sent (.preset x) 0x04 [(4, x.toNat)])
    ∧ (∀ t start vs, sent (.tableWrite t start vs) 0x05
        ([(1, t.toNat), (1, 0), (2, start.toNat)] ++ vs.map (fun v : Half => (2, v.toNat))))
    ∧ (∀ t copy start count, sent (.tableRead t copy start count) 0x06
        [(1, t.toNat), (1, copy.toNat), (2, start.toNat), (2, count.toNat)])
    ∧ (∀ t expected, sent (.commit t expected) 0x07 [(1, t.toNat), (1, 0), (2, expected.toNat)])
    ∧ (∀ text, encodeCommand (.note text) = (0x10, text))
    ∧ sent .resetStream 0x11 [(1, 0)] ∧ sent .resetFull 0x11 [(1, 1)])
  ∧ (∀ (kind : Byte) (payload : List Byte),
      let k := kind.toNat
      let n := payload.length
      let allowed : Prop :=
        k = 0x01 ∧ n = 1
        ∨ k = 0x02 ∧ n = 0
        ∨ k = 0x03 ∧ (payload.headD 0, n) ∈ [(1, 10), (2, 17), (3, 9), (4, 13), (5, 9), (6, 3), (7, 7), (8, 3)]
        ∨ k = 0x04 ∧ n = 4
        ∨ k = 0x05 ∧ 6 ≤ n ∧ n ≤ 2052 ∧ n % 2 = 0
        ∨ k = 0x06 ∧ n = 6
        ∨ k = 0x07 ∧ n = 4
        ∨ 0x08 ≤ k ∧ k ≤ 0x0F ∧ n = 0
        ∨ k = 0x10 ∧ 1 ≤ n ∧ n ≤ 32
        ∨ k = 0x11 ∧ n = 1 ∧ (payload.headD 0).toNat ≤ 1
      (k = 0 ∨ 0x11 < k → parseCommand kind payload = .unknown kind)
      ∧ (1 ≤ k → k ≤ 0x11 → (parseCommand kind payload = .malformed ↔ ¬ allowed)))
  ∧ (∀ (pad t s f x0 x1 y0 y1 : Byte) (rest : List Byte),
      parseCommand 0x05 (t :: pad :: rest) = parseCommand 0x05 (t :: 0 :: rest)
      ∧ parseCommand 0x07 (t :: pad :: rest) = parseCommand 0x07 (t :: 0 :: rest)
      ∧ parseCommand 0x03 (4 :: x0 :: x1 :: y0 :: y1 :: f :: pad :: rest)
        = parseCommand 0x03 (4 :: x0 :: x1 :: y0 :: y1 :: f :: 0 :: rest)
      ∧ parseCommand 0x03 (5 :: s :: pad :: rest) = parseCommand 0x03 (5 :: s :: 0 :: rest))

/-- R174: a message whose CRC differs from the one computed is discarded and counted, and the receiver hunts again.
R174: silence discards a partial message and counts it; in HUNT it has no effect. R173, R174: after a sync pair, a
header whose length is above 4096 is a length fault; the receiver hunts again. -/
def Obligations.DiscardedMessagesAreCounted : Prop :=
  (∀ (kind tag low high : Byte) (payload : List Byte) (s : State),
      let covered := [kind, tag] ++ leBytes 2 payload.length ++ payload
      s.lnk.rx = .hunt → payload.length ≤ 4096 → high ++ low ≠ crc covered →
      exec (.acceptedMessage ([0xA5, 0x5A] ++ covered ++ [low, high])) s =
        .next (settle { s with lnk := { s.lnk with crcFaults := min (s.lnk.crcFaults + 1) 4294967295 } }))
  ∧ (∀ s : State,
      (s.lnk.rx = .hunt → exec .silence s = .next (settle s))
      ∧ (s.lnk.rx ≠ .hunt →
          exec .silence s =
            .next (settle { s with lnk := { s.lnk with rx := .hunt, silences := min (s.lnk.silences + 1) 4294967295 } })))
  ∧ (∀ (kind tag : Byte) (length : Half) (s : State),
      s.lnk.rx = .hunt → 4096 < length.toNat →
      exec (.headerLengthFault kind tag length) s =
        .next (settle { s with lnk := { s.lnk with lengthFaults := min (s.lnk.lengthFaults + 1) 4294967295 } }))

/-! ## Queries -/

/-- R175: a command whose kind is none of the seventeen is answered UNKNOWN, one whose payload does not fit BAD;
neither changes anything. R180: the four leaves, and BAD above leaf 3; nothing else changes. The revision code and the
serial number are free values: log 12. R181: STATUS changes nothing and answers OK with the eleven sections as the part
stands when the command is taken, in at most 4096 bytes. The sections' fields, with the presence bytes and sizes of log 14
and the free places of log 15, are spelled in ReportsAndStatusFollowTheirLayouts. -/
def Obligations.QueriesAreAnsweredAndChangeNothing : Prop :=
  (∀ (tag kind : Byte) (s : State), Ready s →
      exec (.unknownCommand tag kind) s = .next (replied tag .unknown [] s)
      ∧ settle (deliver ⟨tag, .malformed⟩ s) = replied tag .bad [] s)
  ∧ (∀ (tag leaf : Byte) (s : State), Ready s →
      exec (.identify tag leaf) s = .next (
        if leaf = 0 then replied tag .ok [0, 0x45, 0x5A, 0x41, 0x46, 0x4F, 0x52, 3] s
        else if leaf = 1 then
          replied tag .ok ([1, 0x4A, 0x41, 0x4C, 0x41, 0x5A, 0x20, 0x4A, 0x57, 0x32, 0x31, 0x36]
            ++ leBytes 2 Config.revision.toNat) s
        else if leaf = 2 then
          replied tag .ok (2 :: [3, 4096, 1024, 1008, 2048, 65, 32, 17, 1600, 8].flatMap (leBytes 2)) s
        else if leaf = 3 then replied tag .ok (3 :: leBytes 8 Config.serial.toNat) s
        else replied tag .bad [] s))
  ∧ (∀ (tag : Byte) (s : State), Ready s →
      exec (.status tag) s = .next (replied tag .ok
        ([(1, fsqStatus s.fsq), (2, stripStatus s.strip), (3, blkStatus s.blk s.fsq.nDark), (4, odoStatus s.odo),
          (5, bcfStatus s.bcf), (6, geoStatus s.geo), (7, ilcStatus s.ilc), (8, cvtStatus s.cvt),
          (9, rwsStatus s.rws s.lnk.tx), (10, tbuStatus s.tbu), (11, lnkStatus s)].flatMap
            (fun p => leBytes 1 p.1 ++ leBytes 2 p.2.length ++ p.2)) s))
  ∧ (∀ s : State, SectorsComplete s → (statusReport s).length ≤ 4096)

/-! ## Settings records -/

/-- R35: a SENSOR record, in every operating state. -/
def Obligations.SensorRecordIsCheckedAndInstalled : Prop :=
  ∀ (tag : Byte) (r : SensorFields) (s : State), Ready s →
    let w := r.width.toNat
    let h := r.height.toNat
    let period := clampNat r.period.toNat 20 1000
    let exposure := clampNat r.exposure.toNat 50 10000
    let resized := w ≠ s.fsq.sensor.width ∨ h ≠ s.fsq.sensor.height
    let installed : State :=
      { s with
        fsq := { s.fsq with
          sensorHeld := true
          sensor := ⟨w, h, period, exposure, if r.source = 1 then .pattern else .sensor⟩ }
        blk := { s.blk with
          calValid := if resized ∨ s.fsq.sensorHeld = false then false else s.blk.calValid } }
    exec (.sensorRecord tag r) s = .next (
      if s.fsq.opState ≠ .unconfigured ∧ s.fsq.opState ≠ .idle then replied tag .state [0] s
      else if ¬ ((64 ≤ w ∧ w ≤ 1600 ∧ w % 16 = 0) ∧ (64 ≤ h ∧ h ≤ 1600 ∧ h % 16 = 0) ∧ (r.source = 0 ∨ r.source = 1)) then
        replied tag .bad [] s
      else if s.fsq.buffers.holdInFlight = true ∨ (resized ∧ s.fsq.buffers.anyHeld = true) then replied tag .busy [] s
      else
        replied tag (if period ≠ r.period.toNat ∨ exposure ≠ r.exposure.toNat then .clamped else .ok) []
          (if s.fsq.opState = .unconfigured then setOpState .idle installed else installed))

/-- R5, R6, R8, R139: a STRIP record, in every operating state, with the coverage clear it may cause. -/
def Obligations.StripRecordIsCheckedAndInstalled : Prop :=
  ∀ (tag : Byte) (r : StripFields) (s : State), Ready s →
    let cleared : Cvt :=
      { s.cvt with
        ring := List.replicate 4096 ⟨.unseen, false⟩, wb := 0, span := none, ever := none, xprev := none
        prevDir := .forward, takeList := [] }
    exec (.stripRecord tag r) s = .next (
      if s.fsq.opState ≠ .idle then replied tag .state [0] s
      else if ¬ ((r.w = 512 ∨ r.w = 1024 ∨ r.w = 2048) ∧ r.b0.toNat ≤ r.b1.toNat ∧ r.b1.toNat ≤ 511
          ∧ 1 ≤ r.p.toNat ∧ r.p.toNat ≤ 64 ∧ 0 ≤ r.z0.toInt ∧ r.z0.toInt ≤ 65535 ∧ (r.depth = 12 ∨ r.depth = 8)) then
        replied tag .bad [] s
      else
        replied tag (if 4095 < r.fill.toNat then .clamped else .ok) []
          { s with
            strip :=
              { held := true
                record :=
                  { w := r.w.toNat, b0 := r.b0.toNat, b1 := r.b1.toNat, p := r.p.toNat, z0 := r.z0.toInt
                    mount := r.mount.toNat % 4096, depth := r.depth.toNat, fill := min r.fill.toNat 4095 } }
            cvt :=
              if s.strip.held = false ∨ r.p.toNat ≠ s.strip.record.p ∨ r.z0.toInt ≠ s.strip.record.z0 then cleared
              else s.cvt })

/-- R107, R109, R45: a LIGHT record; a cap below the sums rescales the drives and the LED outputs at once. R106: RELIGHT,
with the frames still to complete rendering as the stale ones: a buffer EXPOSING a STREAM exposure, READY or RENDERING. -/
def Obligations.LightRecordAndRelight : Prop :=
  (∀ (tag : Byte) (r : LightFields) (s : State), Ready s →
      let n : LightRecord :=
        ⟨clampNat r.t.toNat 256 3840, clampNat r.tol.toNat 8 512, clampNat r.cap.toNat 128 8184,
          clampNat r.start.toNat 16 1023⟩
      exec (.lightRecord tag r) s = .next (
        if s.fsq.opState = .unconfigured then replied tag .state [0] s
        else
          replied tag (if n ≠ ⟨r.t.toNat, r.tol.toNat, r.cap.toNat, r.start.toNat⟩ then .clamped else .ok) []
            { s with
              ilc := { s.ilc with light := n, drives := capRule n.cap s.ilc.drives }
              fsq := { s.fsq with led := capRule n.cap s.fsq.led } }))
  ∧ (∀ (tag : Byte) (s : State), Ready s →
      exec (.relight tag) s = .next (
        if s.fsq.opState ≠ .streaming then replied tag .state [0] s
        else
          replied tag .ok []
            { s with
              ilc := { s.ilc with
                drives := capRule s.ilc.light.cap (List.replicate 8 s.ilc.light.start)
                trims := List.replicate 8 4096
                loop := .seeking
                clean := 0
                unsettled := 0
                stale := s.fsq.buffers.count Buffer.pendingStream
                lastUpdate := none } }))
  ∧ (∀ (buffers : Buffers) (test : Buffer → Bool),
      buffers.count test = [buffers.b0, buffers.b1, buffers.b2].countP test)
  ∧ (∀ b : Buffer, b.pendingStream = true ↔
      (∃ r p, b = .exposing r p ∧ r.kind = .stream) ∨ (∃ f, b = .ready f) ∨ ∃ f, b = .rendering f)

/-- R91, R92: a CENTRE record; one that changes cx or cy resets the offset. All its fields are signed, as R91 says, where
R189 marks cx and cy alone: log 13. -/
def Obligations.CentreRecordIsClampedAndInstalled : Prop :=
  ∀ (tag : Byte) (r : CentreFields) (s : State), Ready s →
    let cx := clampInt r.cx.toInt 0 (16 * s.fsq.sensor.width - 1)
    let cy := clampInt r.cy.toInt 0 (16 * s.fsq.sensor.height - 1)
    let threshold := clampInt r.threshold.toInt 0 4095
    let mincount := clampInt r.mincount.toInt 1 4096
    let maxoff := clampInt r.maxoff.toInt 0 1024
    let moved := cx ≠ s.bcf.centre.cx ∨ cy ≠ s.bcf.centre.cy
    exec (.centreRecord tag r) s = .next (
      if s.fsq.opState = .unconfigured then replied tag .state [0] s
      else if r.follow ≠ 0 ∧ r.follow ≠ 1 then replied tag .bad [] s
      else
        replied tag
          (if cx ≠ r.cx.toInt ∨ cy ≠ r.cy.toInt ∨ threshold ≠ r.threshold.toInt ∨ mincount ≠ r.mincount.toInt
              ∨ maxoff ≠ r.maxoff.toInt then .clamped else .ok) []
          { s with
            bcf := { s.bcf with
              centre := ⟨cx, cy, decide (r.follow = 1), threshold.toNat, mincount.toNat, maxoff.toNat⟩
              ox := if moved then 0 else s.bcf.ox
              oy := if moved then 0 else s.bcf.oy } })

/-- R17, R15: an ODOMETER record; when the step returns to 0 the levels on the lines become the reference. -/
def Obligations.OdometerRecordIsClampedAndInstalled : Prop :=
  ∀ (tag : Byte) (r : OdometerFields) (s : State), Ready s →
    let step := clampInt r.step.toInt (-1024) 1024
    let zm := clampInt r.zm.toInt 0 65535
    let resumes := s.odo.odometer.step ≠ 0 ∧ step = 0
    exec (.odometerRecord tag r) s = .next (
      if s.fsq.opState ≠ .idle then replied tag .state [0] s
      else if r.sign.toInt ≠ 1 ∧ r.sign.toInt ≠ -1 then replied tag .bad [] s
      else
        replied tag (if step ≠ r.step.toInt ∨ zm ≠ r.zm.toInt then .clamped else .ok) []
          { s with
            odo := { s.odo with
              odometer := ⟨r.sign.toInt, step, zm⟩
              refA := if resumes then s.odo.lineA else s.odo.refA
              refB := if resumes then s.odo.lineB else s.odo.refB } })

/-- R64 and R154: the DARK and the PREVIEW record. R33, R31, R32: an ADVISORY record; the store term is updated from
the fill, and the level re-formed at once. R32: the level is HOLD outside STREAMING and the higher of the two terms in
it; a level that changes sets the advisory-due mark, and one that does not leaves it. R31: the store term after a change
of the fill. -/
def Obligations.DarkPreviewAndAdvisoryRecords : Prop :=
  (∀ (tag : Byte) (n : Half) (s : State), Ready s →
      let k := n.toNat
      let nDark := if k = 0 then 0 else if k < 16 then 16 else if 4096 < k then 4096 else k
      exec (.darkRecord tag n) s = .next (
        if s.fsq.opState = .unconfigured then replied tag .state [0] s
        else
          replied tag (if nDark = k then .ok else .clamped) [] { s with fsq := { s.fsq with nDark := nDark } })
      ∧ exec (.previewRecord tag n) s = .next (
        if s.fsq.opState = .unconfigured then replied tag .state [0] s
        else
          replied tag (if 255 < k then .clamped else .ok) []
            { s with
              rws := { s.rws with
                nPrev := min k 255
                previewCounter := if k = 0 then 0 else s.rws.previewCounter } }))
  ∧ (∀ (tag : Byte) (r : AdvisoryFields) (s : State), Ready s →
      let n : AdvisoryRecord := ⟨r.tResume.toNat, r.tSlow.toNat, r.tHold.toNat⟩
      exec (.advisoryRecord tag r) s = .next (
        if s.fsq.opState = .unconfigured then replied tag .state [0] s
        else if ¬ (1 ≤ n.tResume ∧ n.tResume < n.tSlow ∧ n.tSlow ≤ n.tHold ∧ n.tHold ≤ 1008) then replied tag .bad [] s
        else
          replied tag .ok []
            { s with
              odo := ({ s.odo with
                advisory := n
                storeTerm := storeTermAfter n s.rws.fill s.odo.storeTerm }).reformLevel s.fsq.opState }))
  ∧ (∀ (o : Odo) (op : OpState),
      let t := o.reformLevel op
      (op ≠ .streaming → t.level = .hold)
      ∧ (op = .streaming →
          (t.level = o.coverageTerm ∨ t.level = o.storeTerm)
          ∧ o.coverageTerm.code ≤ t.level.code ∧ o.storeTerm.code ≤ t.level.code)
      ∧ t.advisoryDue = (o.advisoryDue || decide (t.level ≠ o.level))
      ∧ t = { o with level := t.level, advisoryDue := t.advisoryDue })
  ∧ (∀ (r : AdvisoryRecord) (fill : Nat) (term : Advisory),
      storeTermAfter r fill term =
        if r.tHold ≤ fill then .hold else if r.tSlow ≤ fill then .slow else if fill < r.tResume then .go else term)

/-- R19: PRESET POSITION. X alone changes: no reference, no phase-error count, no speed, no Xprev. -/
def Obligations.PresetSetsPositionAlone : Prop :=
  ∀ (tag : Byte) (position : Word) (s : State), Ready s →
    exec (.presetPosition tag position) s = .next (
      if s.fsq.opState ≠ .idle then replied tag .state [0] s
      else if -(2 ^ 30) ≤ position.toInt ∧ position.toInt ≤ 2 ^ 30 - 1 then
        replied tag .ok [] { s with odo := { s.odo with x := position.toInt } }
      else replied tag .bad [] s)

/-! ## Tables and commits -/

/-- R161: TABLE WRITE changes entries of the pending copy alone, clamped to the top of the table's range. R163, R189:
TABLE READ answers with the entries as they stand, the generation and the armed commit; it changes nothing. R159, R189: the
table a byte names, its number of entries and the top of their range. -/
def Obligations.TableWritesAndReads : Prop :=
  (∀ (tag table : Byte) (start : Half) (values : List Half) (s : State), Ready s →
      (tableOf table = none → exec (.tableWrite tag table start values) s = .next (replied tag .bad [] s))
      ∧ ∀ i, tableOf table = some i →
        let t := s.tbu.get i
        let n := values.length
        exec (.tableWrite tag table start values) s = .next (
          if n = 0 ∨ 1024 < n ∨ i.entries < start.toNat + n then replied tag .bad [] s
          else
            replied tag (if values.any (fun v => decide (i.top < v.toNat)) then .clamped else .ok) []
              { s with
                tbu := s.tbu.set i
                  { t with
                    pending := t.pending.take start.toNat ++ values.map (fun v => min v.toNat i.top)
                      ++ t.pending.drop (start.toNat + n) } }))
  ∧ (∀ (tag table copy : Byte) (start count : Half) (s : State), Ready s →
      (tableOf table = none → exec (.tableRead tag table copy start count) s = .next (replied tag .bad [] s))
      ∧ ∀ i, tableOf table = some i →
        let t := s.tbu.get i
        exec (.tableRead tag table copy start count) s = .next (
          if copy ≠ 0 ∧ copy ≠ 1 ∨ count.toNat = 0 ∨ 1024 < count.toNat ∨ i.entries < start.toNat + count.toNat then
            replied tag .bad [] s
          else
            replied tag .ok
              (leBytes 1 i.code ++ [copy] ++ leBytes 2 start.toNat ++ leBytes 2 count.toNat ++ leBytes 2 t.gen
                ++ (match t.armed with
                  | some e => leBytes 1 1 ++ leBytes 1 0 ++ leBytes 2 e
                  | none => leBytes 1 0 ++ leBytes 1 0 ++ leBytes 2 0)
                ++ (((if copy = 0 then t.active else t.pending).drop start.toNat).take count.toNat).flatMap (leBytes 2)) s))
  ∧ (∀ table : Byte,
      tableOf table =
        if table = 1 then some .profile else if table = 2 then some .shade else if table = 3 then some .column else none)
  ∧ (∀ (t : Tbu) (i j : TableId) (u : TableState),
      (t.get .profile = t.profile ∧ t.get .shade = t.shade ∧ t.get .column = t.column)
      ∧ (t.set i u).get j = (if j = i then u else t.get j) ∧ (t.set i u).parked = t.parked)
  ∧ [TableId.profile, .shade, .column].map TableId.entries = [65, 544, 1600]
  ∧ [TableId.profile, .shade, .column].map TableId.top = [16383, 65535, 4095]

/-- R164, R165, R166: COMMIT arms after its checks, and what can be applied at once is applied before the reply; 1, 2 and 3
name PROFILE, SHADE and COLUMN, and no other byte a table (R189). R167, R160: the application of an armed commit, with its
second check; then the parked SYNC is looked at (R169). -/
def Obligations.CommitArmsAndApplicationChecksAgain : Prop :=
  (∀ (tag table : Byte) (expected : Half) (s : State), Ready s →
      (table ∉ [1, 2, 3] → exec (.commit tag table expected) s = .next (replied tag .bad [] s))
      ∧ ∀ i, (table, i) ∈ [((1 : Byte), TableId.profile), (2, .shade), (3, .column)] →
        let t := s.tbu.get i
        exec (.commit tag table expected) s = .next (
          if t.armed.isSome = true then replied tag .busy [] s
          else if expected.toNat ≠ t.gen then replied tag .stale (leBytes 2 t.gen) s
          else
            replied tag .ok []
              (applyIdleCommits { s with tbu := s.tbu.set i { t with armed := some expected.toNat } })))
  ∧ (∀ (i : TableId) (point : CommitPoint) (s : State),
      let t := s.tbu.get i
      (t.armed = none → applyCommit i point s = s)
      ∧ ∀ e, t.armed = some e →
        applyCommit i point s = answerSync (
          if e = t.gen then
            raiseEvent (.commitApplied i (if t.gen = 65535 then 1 else t.gen + 1) point)
              { s with
                tbu := s.tbu.set i
                  ⟨t.pending, t.pending, if t.gen = 65535 then 1 else t.gen + 1, none⟩ }
          else
            raiseEvent (.commitCancelled i e t.gen)
              { s with tbu := s.tbu.set i { t with armed := none } }))

/-- R169, R178: SYNC is answered with the three generations, parked with its place kept, or refused with BUSY; and a parked
SYNC is answered once no commit is armed. -/
def Obligations.SyncWaitsForTheArmedCommits : Prop :=
  (∀ (tag : Byte) (s : State), Ready s →
    exec (.sync tag) s = .next (
      if s.tbu.parked.isSome = true then replied tag .busy [] s
      else if s.tbu.anyArmed = true then settle { s with tbu := { s.tbu with parked := some tag } }
      else
        replied tag .ok (leBytes 2 s.tbu.profile.gen ++ leBytes 2 s.tbu.shade.gen ++ leBytes 2 s.tbu.column.gen) s))
  ∧ ∀ (tag : Byte) (s : State), s.tbu.parked = some tag →
    answerSync s =
      if s.tbu.anyArmed = true then s
      else
        putReply
          ⟨tag, .ok, leBytes 2 s.tbu.profile.gen ++ leBytes 2 s.tbu.shade.gen ++ leBytes 2 s.tbu.column.gen, false⟩
          { s with tbu := { s.tbu with parked := none } }

/-! ## Operating commands -/

/-- R34, R32, R104, R165, R166: what a change of operating state does to the other blocks. R165, R166: outside
STREAMING nothing stays armed that can be applied, and in STREAMING nothing is applied at once. The applications come in
the order PROFILE, SHADE, COLUMN: log 18. -/
def Obligations.ChangeOfStateReachesTheBlocks : Prop :=
  (∀ (op : OpState) (s : State),
      setOpState op s = applyIdleCommits
        { s with
          fsq := { s.fsq with opState := op }
          ilc :=
            if op = .streaming then s.ilc
            else { s.ilc with loop := .dark, clean := 0, unsettled := 0, stale := 0 }
          odo := s.odo.reformLevel op })
  ∧ (∀ s : State,
      (s.fsq.opState = .streaming → applyIdleCommits s = s)
      ∧ (s.fsq.opState ≠ .streaming →
          let t := applyIdleCommits s
          let both := applyCommit .shade .atOnce (applyCommit .profile .atOnce s)
          t = (if s.fsq.buffers.anyExposing = true then both else applyCommit .column .atOnce both)
          ∧ t.tbu.profile.armed = none ∧ t.tbu.shade.armed = none
          ∧ (s.fsq.buffers.anyExposing = false → t.tbu.column.armed = none)
          ∧ (s.fsq.buffers.anyExposing = true → t.tbu.column = s.tbu.column)
          ∧ (s.tbu.profile.armed = some s.tbu.profile.gen → t.tbu.profile.active = s.tbu.profile.pending)
          ∧ (s.tbu.shade.armed = some s.tbu.shade.gen → t.tbu.shade.active = s.tbu.shade.pending)
          ∧ t = { s with tbu := t.tbu, lnk := t.lnk }))

/-- R40, R60: CALIBRATE. R37, R65, R66, R105, R155: START's checks in their order, and what it sets. -/
def Obligations.CalibrateAndStartArmTheTimer : Prop :=
  (∀ (tag : Byte) (s : State), Ready s →
      exec (.calibrate tag) s = .next (
        if s.fsq.opState ≠ .idle then replied tag .state [0] s
        else if s.fsq.buffers.holdInFlight = true then replied tag .busy [] s
        else
          replied tag .ok [] (setOpState .calibrating
            { s with
              fsq := { s.fsq with timer := some 0 }
              blk := { s.blk with colSums := List.replicate 1600 0, calFrames := 0, calSaturated := 0 } })))
  ∧ (∀ (tag : Byte) (s : State), Ready s →
      exec (.start tag) s = .next (
        if s.fsq.opState ≠ .idle then replied tag .state [0] s
        else if s.strip.held = false then replied tag .state [1] s
        else if s.tbu.profile.gen = 0 then replied tag .state [2] s
        else if s.blk.calValid = false then replied tag .state [3] s
        else if s.fsq.buffers.holdInFlight = true ∨ s.geo.inTrial = true then replied tag .busy [] s
        else
          replied tag .ok [] (setOpState .streaming
            { s with
              fsq := { s.fsq with timer := some 0, darkCounter := 0, discardCount := 0 }
              blk := { s.blk with darkMeasured := 0 }
              rws := { s.rws with previewCounter := 0 }
              ilc := { s.ilc with
                drives := capRule s.ilc.light.cap (List.replicate 8 s.ilc.light.start)
                trims := List.replicate 8 4096
                loop := .seeking
                clean := 0
                unsettled := 0
                stale := 0
                lastUpdate := none } })))

/-- R38, R39, R62: STOP in each operating state. What an abandoned calibration readout had delivered is a free value
(log 10): it reaches the column sums and the saturated count alone, and stays in them. R39: STOPPING ends, with STOPPED
raised, when no buffer is EXPOSING and none RENDERING, and not before. That CAL_ABORTED stands before the events of the
commits, and STOPPED behind them, is log 18; that the strobe is off after an abandoned exposure is log 19; that a frame
already RENDERING completes, also when its readout completed at the moment of the STOP, is log 33. -/
def Obligations.StopActsByOperatingState : Prop :=
  (∀ (tag : Byte) (s : State), Ready s →
      exec (.stop tag) s = .next (
        match s.fsq.opState with
        | .unconfigured => replied tag .state [0] s
        | .idle => replied tag .state [0] s
        | .calibrating =>
          replied tag .ok [] (setOpState .idle (raiseEvent (.calAborted .stop s.blk.calFrames)
            { s with
              fsq := { s.fsq with
                timer := none
                buffers := s.fsq.buffers.map Buffer.abandonExposure
                led := List.replicate 8 0
                strobe := false }
              blk := (keepDelivered s).blk
              freeIx := (keepDelivered s).freeIx }))
        | .streaming =>
          replied tag .ok [] (stopTest (setOpState .stopping
            { s with
              fsq := { s.fsq with
                timer := none
                buffers := s.fsq.buffers.map Buffer.discardReady
                readyOrder := []
                discardCount := s.fsq.discardCount + s.fsq.buffers.count (fun b => b.ready?.isSome) } }))
        | .stopping => replied tag .ok [] s))
  ∧ (∀ s : State,
      (s.fsq.opState = .stopping → s.fsq.buffers.anyExposing = false → s.fsq.buffers.anyRendering = false →
        stopTest s = raiseEvent (.stopped s.fsq.discardCount s.fsq.frameCounter s.fsq.holdMark)
          (setOpState .idle { s with fsq := { s.fsq with holdMark := false } }))
      ∧ ((s.fsq.opState ≠ .stopping ∨ s.fsq.buffers.anyExposing = true ∨ s.fsq.buffers.anyRendering = true) →
        stopTest s = s))
  ∧ (∀ s : State,
      let t := keepDelivered s
      t = { s with blk := t.blk, freeIx := t.freeIx }
      ∧ t.blk = { s.blk with colSums := t.blk.colSums, calSaturated := t.blk.calSaturated }
      ∧ t.blk.colSums.length = s.blk.colSums.length
      ∧ (∀ x, s.blk.colSums.getD x 0 ≤ t.blk.colSums.getD x 0)
      ∧ s.blk.calSaturated ≤ t.blk.calSaturated
      ∧ ((∀ i r x, s.fsq.buffers.exposure = some (i, r, .readout x) → r.kind ≠ .calibration) → t = s)
      ∧ (∀ i r x, s.fsq.buffers.exposure = some (i, r, .readout x) → r.kind = .calibration →
        t.freeIx = s.freeIx + 1))
  ∧ (∀ (buffers : Buffers) (change : Buffer → Buffer),
      buffers.map change = ⟨change buffers.b0, change buffers.b1, change buffers.b2⟩)
  ∧ (∀ b : Buffer,
      b.abandonExposure =
        (match b with
        | .exposing _ _ => .free
        | _ => b)
      ∧ b.discardReady =
        (match b with
        | .ready _ => .free
        | _ => b)
      ∧ (b.ready?.isSome = true ↔ ∃ f, b = .ready f))

/-- R51, R52: HOLD. That HOLD in IDLE with no buffer FREE answers BUSY is log 4: R52 shows that it cannot come about.
R53: RELEASE. R48: what is meant by the exposure in flight, the HELD buffer, and a buffer being EXPOSING, RENDERING or
HELD. -/
def Obligations.HoldAndRelease : Prop :=
  (∀ (tag : Byte) (s : State), Ready s →
      exec (.hold tag) s = .next (
        if s.fsq.opState ≠ .idle ∧ s.fsq.opState ≠ .streaming then replied tag .state [0] s
        else if s.fsq.buffers.anyHeld = true ∨ s.fsq.holdMark = true ∨ s.fsq.buffers.holdInFlight = true then
          replied tag .busy [] s
        else if s.fsq.opState = .streaming then replied tag .ok [] { s with fsq := { s.fsq with holdMark := true } }
        else if s.fsq.buffers.b0 = .free then replied tag .ok [] (startExposure .hold .b0 s)
        else if s.fsq.buffers.b1 = .free then replied tag .ok [] (startExposure .hold .b1 s)
        else if s.fsq.buffers.b2 = .free then replied tag .ok [] (startExposure .hold .b2 s)
        else replied tag .busy [] s))
  ∧ (∀ (tag : Byte) (s : State), Ready s →
      (s.fsq.opState = .unconfigured → exec (.release tag) s = .next (replied tag .state [0] s))
      ∧ (s.fsq.opState ≠ .unconfigured → ∀ i f, s.fsq.buffers.heldFrame = some (i, f) →
          exec (.release tag) s = .next (
            if s.geo.inTrial = true then replied tag .busy [] s
            else replied tag .ok [] { s with fsq := { s.fsq with buffers := s.fsq.buffers.set i .free } }))
      ∧ (s.fsq.opState ≠ .unconfigured → s.fsq.buffers.heldFrame = none →
          exec (.release tag) s = .next (
            if s.fsq.holdMark = true then replied tag .ok [] { s with fsq := { s.fsq with holdMark := false } }
            else if s.fsq.buffers.holdInFlight = true then replied tag .busy [] s
            else replied tag .state [0] s)))
  ∧ (∀ b : Buffers,
      (b.get .b0 = b.b0 ∧ b.get .b1 = b.b1 ∧ b.get .b2 = b.b2)
      ∧ (∀ i r p, b.exposure = some (i, r, p) → b.get i = .exposing r p)
      ∧ (b.exposure = none ↔ ∀ i r p, b.get i ≠ .exposing r p)
      ∧ b.anyExposing = b.exposure.isSome
      ∧ (b.holdInFlight = true ↔ ∃ i r p, b.exposure = some (i, r, p) ∧ r.kind = .hold)
      ∧ (∀ i f, b.heldFrame = some (i, f) → b.get i = .held f)
      ∧ (b.heldFrame = none ↔ ∀ i f, b.get i ≠ .held f)
      ∧ b.anyHeld = b.heldFrame.isSome
      ∧ (b.anyRendering = true ↔ ∃ i f, b.get i = .rendering f)
      ∧ ∀ i j v, (b.set i v).get j = if j = i then v else b.get j)
  ∧ ∀ g : Geo, g.inTrial = true ↔ (∃ w, g = .trial w) ∨ ∃ w e, g = .trialWait w e

/-- R152, R88, R89, R155: RERENDER. -/
def Obligations.RerenderStartsATrial : Prop :=
  ∀ (tag : Byte) (s : State), Ready s →
    (s.fsq.opState ≠ .idle → exec (.rerender tag) s = .next (replied tag .state [0] s))
    ∧ (s.fsq.opState = .idle → (s.geo.inTrial = true ∨ s.fsq.buffers.holdInFlight = true) →
        exec (.rerender tag) s = .next (replied tag .busy [] s))
    ∧ (s.fsq.opState = .idle → s.geo.inTrial = false → s.fsq.buffers.holdInFlight = false →
        s.fsq.buffers.heldFrame = none → exec (.rerender tag) s = .next (replied tag .state [0] s))
    ∧ (s.fsq.opState = .idle → s.geo.inTrial = false → s.fsq.buffers.holdInFlight = false →
        ∀ i f, s.fsq.buffers.heldFrame = some (i, f) →
        exec (.rerender tag) s = .next (
          if s.strip.held = false then replied tag .state [1] s
          else
            replied tag .ok []
              { s with
                geo := .trial
                  { buffer := i
                    context :=
                      { frameNumber := f.record.frameNumber, position := f.position, roll := f.record.roll
                        rollStale := f.record.rollStale, width := f.record.width, height := f.record.height
                        columnGen := f.record.columnGen, direction := .stopped
                        w := s.strip.record.w, depth := s.strip.record.depth, fill := s.strip.record.fill
                        b0 := s.strip.record.b0, b1 := s.strip.record.b1
                        rollTotal := (f.record.roll + s.strip.record.mount) % 4096
                        cx := s.bcf.centre.cx + s.bcf.ox, cy := s.bcf.centre.cy + s.bcf.oy
                        ox := s.bcf.ox, oy := s.bcf.oy, centreHeld := false
                        trims := s.ilc.trims, loopState := s.ilc.loop
                        profile := s.tbu.profile.pending, shade := s.tbu.shade.pending
                        profileGen := s.tbu.profile.gen, shadeGen := s.tbu.shade.gen }
                    rows := (List.range (s.strip.record.b1 + 1 - s.strip.record.b0)).map (s.strip.record.b0 + ·)
                    done := 0 }
                rws :=
                  if s.rws.nPrev = 0 then s.rws
                  else if s.rws.preview = none then { s.rws with preview := some (makePreview f .trial) }
                  else { s.rws with skipCount := min (s.rws.skipCount + 1) 65535 } }))

/-- R28: NOTE. -/
def Obligations.NoteFillsTheDownSlot : Prop :=
  ∀ (tag : Byte) (text : List Byte) (s : State), Ready s →
    exec (.note tag text) s = .next (
      if ¬ (1 ≤ text.length ∧ text.length ≤ 32 ∧ ∀ b ∈ text, 0x20 ≤ b.toNat ∧ b.toNat ≤ 0x7E) then
        replied tag .bad [] s
      else if s.odo.down.isSome = true then replied tag .busy [] s
      else replied tag .ok [] { s with odo := { s.odo with down := some text } })

/-! ## Resets -/

/-- R182, R55, R62, R87, R90, R99, R104, R139, R157, R170, R188: RESET STREAM, the whole part after it. What an abandoned
calibration readout had delivered is log 10, and spelled in StopActsByOperatingState. CAL_ABORTED stands before the commits'
events (R182), these in the order of their tables (log 18). That the strobe is off is log 19; that the discarded frame counts
and the advance of the abandoned render are 0 is logs 29 and 24. -/
def Obligations.ResetStreamActsBlockByBlock : Prop :=
  ∀ (tag : Byte) (s : State), Ready s →
    let table (i : TableId) : TableState :=
      let u := s.tbu.get i
      match u.armed with
      | none => u
      | some e =>
        if e = u.gen then ⟨u.pending, u.pending, if u.gen = 65535 then 1 else u.gen + 1, none⟩
        else { u with armed := none }
    let commitEvent (i : TableId) : List ControlItem :=
      let u := s.tbu.get i
      match u.armed with
      | none => []
      | some e =>
        [.event (if e = u.gen then .commitApplied i (if u.gen = 65535 then 1 else u.gen + 1) .atOnce
          else .commitCancelled i e u.gen)]
    let calAborted : List ControlItem :=
      if s.fsq.opState = .calibrating then [.event (.calAborted .reset s.blk.calFrames)] else []
    let anyArmed := s.tbu.profile.armed.isSome || s.tbu.shade.armed.isSome || s.tbu.column.armed.isSome
    let syncAnswer : List Reply :=
      match s.tbu.parked with
      | some t =>
        if anyArmed then
          [⟨t, .ok, leBytes 2 (table .profile).gen ++ leBytes 2 (table .shade).gen ++ leBytes 2 (table .column).gen,
            false⟩]
        else []
      | none => []
    exec (.resetStream tag) s = .next (replied tag .ok []
      { fsq :=
          { s.fsq with
            opState := if s.fsq.sensorHeld then .idle else .unconfigured
            timer := none, buffers := ⟨.free, .free, .free⟩, readyOrder := [], holdMark := false
            led := List.replicate 8 0, strobe := false }
        blk := if s.fsq.opState = .calibrating then (keepDelivered s).blk else s.blk
        odo :=
          { s.odo with
            coverageTerm := .go
            storeTerm := storeTermAfter s.odo.advisory 0 s.odo.storeTerm
            level := .hold
            advisoryDue := s.odo.advisoryDue || decide (s.odo.level ≠ .hold) }
        strip := s.strip
        bcf := { s.bcf with ox := 0, oy := 0, lastScan := .none }
        geo := .idle
        ilc := { s.ilc with loop := .dark, clean := 0, unsettled := 0, stale := 0 }
        cvt :=
          { ring := List.replicate 4096 ⟨.unseen, false⟩, wb := 0, span := none, ever := none, xprev := none
            prevDir := .forward, takeList := [], counts := ⟨0, 0, 0, 0, 0, 0, 0⟩, advance := 0 }
        rws := { s.rws with entries := [], wallSending := false, seq := 0, preview := none }
        tbu :=
          { profile := table .profile, shade := table .shade, column := table .column
            parked := if anyArmed then none else s.tbu.parked }
        lnk :=
          { s.lnk with
            controlQueue := calAborted ++ commitEvent .profile ++ commitEvent .shade ++ commitEvent .column
            replies := s.lnk.replies ++ syncAnswer }
        freeIx := if s.fsq.opState = .calibrating then (keepDelivered s).freeIx else s.freeIx
        pending := s.pending })

/-- R56, R9, R139, R157, R170, R183, R188: power-on reset, and RESET FULL with its own reply the first message the
part sends. The levels on the quadrature lines are the reference (R15); the pins keep their levels (log 20), the `V H` line
of R32 starts at once (log 8), and a line being received on the crawler port is cut off (R22; log 27). The values after
power-on reset that the chapters state (R9, R15, R16, R17, R21, R22, R24, R33, R36, R56, R59, R61, R63, R64, R65, R66, R91,
R99, R104, R107, R139, R157, R159, R188); that the strobe is off, the frame counts and the advance 0 is logs 19, 29 and
24. -/
def Obligations.FullResetsGiveThePowerOnState : Prop :=
  (∀ s : State,
      let t := State.powerOn s.odo.lineA s.odo.lineB (s.odo.lineCut || decide (s.odo.lineBuf ≠ [])) s.freeIx s.pending
      exec .powerOnReset s = .next t
      ∧ ∀ tag : Byte, Ready s →
        exec (.resetFull tag) s =
          .next { t with lnk := { t.lnk with tx := some (.reply ⟨tag, .ok, [], false⟩) } })
  ∧ (∀ (lineA lineB lineCut : Bool) (freeIx : Nat) (pending : List Instr),
      State.powerOn lineA lineB lineCut freeIx pending =
        { fsq :=
            { opState := .unconfigured, timer := none, frameCounter := 0, buffers := ⟨.free, .free, .free⟩
              readyOrder := [], holdMark := false, slipCount := 0, discardCount := 0, sensorHeld := false
              sensor := ⟨0, 0, 0, 0, .sensor⟩, nDark := 0, darkCounter := 0, led := [0, 0, 0, 0, 0, 0, 0, 0]
              strobe := false }
          blk :=
            { drift := 0, calValid := false, colSums := List.replicate 1600 0, calFrames := 0, calSaturated := 0
              darkMeasured := 0, lastDark := 0 }
          odo :=
            { x := 0, lineA := lineA, lineB := lineB, refA := lineA, refB := lineB, phaseRunning := 0, phasePending := 0
              speed := 0, windowSum := 0, roll := 0, rollAge := 0, rollReceived := false, up := none, down := none
              coverageTerm := .go, storeTerm := .go, level := .hold, advisoryDue := false, responses := []
              portTx := some (.advisory .hold), lineBuf := [], lineCut := lineCut, malformed := 0, overrun := 0
              odometer := ⟨1, 0, 0⟩, advisory := ⟨256, 512, 768⟩ }
          strip := ⟨false, { w := 0, b0 := 0, b1 := 0, p := 0, z0 := 0, mount := 0, depth := 12, fill := 0 }⟩
          bcf :=
            { centre := { cx := 0, cy := 0, follow := false, threshold := 0, mincount := 1, maxoff := 0 }
              ox := 0, oy := 0, lastScan := .none }
          geo := .idle
          ilc :=
            { loop := .dark, clean := 0, unsettled := 0, stale := 0, drives := [0, 0, 0, 0, 0, 0, 0, 0]
              trims := List.replicate 8 4096, light := { t := 2048, tol := 64, cap := 4096, start := 256 }
              lastUpdate := none }
          cvt :=
            { ring := List.replicate 4096 ⟨.unseen, false⟩, wb := 0, span := none, ever := none, xprev := none
              prevDir := .forward, takeList := [], counts := ⟨0, 0, 0, 0, 0, 0, 0⟩, advance := 0 }
          rws :=
            { entries := [], wallSending := false, seq := 0, lostGapRows := 0, preview := none, previewCounter := 0
              skipCount := 0, nPrev := 0 }
          tbu :=
            { profile := ⟨List.replicate 65 0, List.replicate 65 0, 0, none⟩
              shade := ⟨List.replicate 544 0, List.replicate 544 0, 0, none⟩
              column := ⟨List.replicate 1600 0, List.replicate 1600 0, 0, none⟩, parked := none }
          lnk :=
            { rx := .hunt, cmdQueue := [], replies := [], controlQueue := [], pointer := .wall, tx := none, accepted := 0
              crcFaults := 0, lengthFaults := 0, silences := 0, overflows := 0, summariesDropped := 0
              eventsDropped := 0 }
          freeIx := freeIx
          pending := pending })

/-! ## Capture -/

/-- R41, R42, R43, R65: an expiry reloads the timer and starts an exposure in the lowest-numbered FREE buffer, or slips. A
stopped timer does not expire: log 4. -/
def Obligations.TimerExpiryStartsOrSlips : Prop :=
  ∀ s : State,
    let reloaded : State := { s with fsq := { s.fsq with timer := some s.fsq.sensor.period } }
    let slips := min (s.fsq.slipCount + 1) 65535
    let slipped (cause : SlipCause) : State :=
      raiseEvent (.frameSlip slips cause s.fsq.frameCounter)
        { reloaded with fsq := { reloaded.fsq with slipCount := slips } }
    let kind : FrameKind :=
      if s.fsq.opState = .calibrating then .calibration
      else if s.fsq.nDark ≠ 0 ∧ s.fsq.nDark ≤ s.fsq.darkCounter then .dark
      else .stream
    (s.fsq.timer = none → exec .frameTimerExpiry s = .next (settle s))
    ∧ (s.fsq.timer ≠ none →
        exec .frameTimerExpiry s = .next (settle (
          if s.fsq.buffers.anyExposing = true then slipped .sensorBusy
          else if s.fsq.buffers.b0 = .free then startExposure kind .b0 reloaded
          else if s.fsq.buffers.b1 = .free then startExposure kind .b1 reloaded
          else if s.fsq.buffers.b2 = .free then startExposure kind .b2 reloaded
          else slipped .noBuffer)))

/-- R44, R18, R25, R45, R65, R166: what an exposure start latches, in which buffer, what lights the ring, and the armed COLUMN
commit it applies, with its event and the parked SYNC's answer on the link and nothing else there. The strobe enable pin is
on from here: log 19. R20, R46: the midpoint latches X, the end darkens the ring and begins readout; each at its own phase
alone (log 4). -/
def Obligations.ExposureLatchesItsRecord : Prop :=
  (∀ (kind : FrameKind) (i : BufferId) (s : State),
      let t := startExposure kind i s
      let drives := if kind = .stream ∨ kind = .hold then s.ilc.drives else List.replicate 8 0
      t.fsq =
          { s.fsq with
            frameCounter := (s.fsq.frameCounter + 1) % 4294967296
            buffers := s.fsq.buffers.set i (.exposing
              { frameNumber := t.fsq.frameCounter, kind := kind
                width := s.fsq.sensor.width, height := s.fsq.sensor.height, source := s.fsq.sensor.source
                exposure := s.fsq.sensor.exposure, drives := drives
                roll := s.odo.roll
                rollStale := !s.odo.rollReceived || decide (1000 < s.odo.rollAge)
                columnGen := t.tbu.column.gen } .beforeMidpoint)
            darkCounter :=
              if kind = .stream then min (s.fsq.darkCounter + 1) 4096
              else if kind = .dark then 0
              else s.fsq.darkCounter
            led := drives
            strobe := true }
      ∧ (s.odo.odometer.step = 0 → t.odo = s.odo)
      ∧ (s.odo.odometer.step ≠ 0 →
          let x := clampInt (s.odo.x + s.odo.odometer.step) (-(2 ^ 30)) (2 ^ 30 - 1)
          t.odo = { s.odo with x := x, windowSum := s.odo.windowSum + (x - s.odo.x) })
      ∧ t.tbu = (applyCommit .column (.exposureStart t.fsq.frameCounter) s).tbu
      ∧ t.tbu.column.armed = none
      ∧ t.lnk = (applyCommit .column (.exposureStart t.fsq.frameCounter) s).lnk
      ∧ t = { s with fsq := t.fsq, odo := t.odo, tbu := t.tbu, lnk := t.lnk })
  ∧ (∀ (s : State),
      (∀ i r, s.fsq.buffers.exposure = some (i, r, .beforeMidpoint) →
        exec .exposureMidpoint s = .next (settle
          { s with fsq := { s.fsq with buffers := s.fsq.buffers.set i (.exposing r (.beforeEnd s.odo.x)) } })
        ∧ exec .exposureEnd s = .next (settle s))
      ∧ (∀ i r x, s.fsq.buffers.exposure = some (i, r, .beforeEnd x) →
        exec .exposureEnd s = .next (settle
          { s with
            fsq := { s.fsq with
              buffers := s.fsq.buffers.set i (.exposing r (.readout x)), led := List.replicate 8 0, strobe := false } })
        ∧ exec .exposureMidpoint s = .next (settle s))
      ∧ (∀ i r x, s.fsq.buffers.exposure = some (i, r, .readout x) →
        exec .exposureMidpoint s = .next (settle s) ∧ exec .exposureEnd s = .next (settle s))
      ∧ (s.fsq.buffers.exposure = none →
        exec .exposureMidpoint s = .next (settle s) ∧ exec .exposureEnd s = .next (settle s)))

/-- R47, R39, R49, R60, R61, R62, R66, R52, R166: where the buffer goes at readout completion. That HELD_READY and STOPPED
stand behind the events of the commits applied there is log 18; a sample the operand does not list is log 9; that a
calibration's samples enter the sums at the completion is log 28; that a render starts here with GEO idle (R49), also when
a STOP comes at the same moment (R38), is log 33; that a completion with no readout in progress changes nothing is log
4. -/
def Obligations.ReadoutCompletionPassesTheBufferOn : Prop :=
  (∀ (raw : List (List Sample)) (s : State),
    (∀ i r x, s.fsq.buffers.exposure ≠ some (i, r, .readout x)) → exec (.readoutCompletion raw) s = .next (settle s))
  ∧ ∀ (raw : List (List Sample)) (s : State) (i : BufferId) (r : ExposureRecord) (x : Int),
    s.fsq.buffers.exposure = some (i, r, .readout x) →
    let rows := rawSamples r raw
    let f : Frame := ⟨r, x, storedSamples r s.tbu.column.active s.blk.drift rows⟩
    let withBuffer (b : Buffer) : State := { s with fsq := { s.fsq with buffers := s.fsq.buffers.set i b } }
    (r.kind = .stream → s.fsq.opState = .streaming →
      exec (.readoutCompletion raw) s = .next (settle (tryRenderStart
        { s with
          fsq := { s.fsq with
            buffers := s.fsq.buffers.set i (.ready f), readyOrder := s.fsq.readyOrder ++ [i] } })))
    ∧ (r.kind = .stream → s.fsq.opState ≠ .streaming →
      exec (.readoutCompletion raw) s = .next (settle (stopTest (applyIdleCommits
        { s with
          fsq := { s.fsq with
            buffers := s.fsq.buffers.set i .free, discardCount := s.fsq.discardCount + 1 } }))))
    ∧ (r.kind = .dark →
      exec (.readoutCompletion raw) s = .next (settle (stopTest (tryRenderStart (applyIdleCommits
        { withBuffer .free with blk := s.blk.measureDark s.tbu.column.active rows })))))
    ∧ (r.kind = .hold →
      exec (.readoutCompletion raw) s = .next (settle (raiseEvent (.heldReady r.frameNumber)
        (applyIdleCommits (withBuffer (.held f))))))
    ∧ (r.kind = .calibration → s.blk.calFrames ≠ 15 →
      exec (.readoutCompletion raw) s = .next (settle (applyIdleCommits
        { withBuffer .free with
          blk := { s.blk.accumulate rows with calFrames := s.blk.calFrames + 1 } })))
    ∧ (r.kind = .calibration → s.blk.calFrames = 15 →
      exec (.readoutCompletion raw) s = .next (settle (setOpState .idle (completeCalibration r
        { withBuffer .free with
          fsq := { s.fsq with buffers := s.fsq.buffers.set i .free, timer := none }
          blk := { s.blk.accumulate rows with calFrames := 16 } }))))

/-- R60: the rows of a calibration readout add each raw sample to the sum of its column, and each saturated one to the
saturated-sample count as well; nothing else of BLK changes. R61, R187: the sixteenth calibration readout writes the offsets
of the window's columns, advances the generation, zeroes the drift, sets calibration-valid and raises CAL_DONE with the least
and the greatest offset written; the other entries and the pending copy are kept. -/
def Obligations.CalibrationWritesTheColumnOffsets : Prop :=
  (∀ (b : Blk) (rows : List (List Nat)), (∀ row ∈ rows, row.length ≤ b.colSums.length) →
      let t := b.accumulate rows
      t.colSums.length = b.colSums.length
      ∧ (∀ x, t.colSums.getD x 0 = b.colSums.getD x 0 + (rows.map (fun row => row.getD x 0)).sum)
      ∧ t.calSaturated = b.calSaturated + (rows.map (fun row => row.countP (fun v => v == 4095))).sum
      ∧ t = { b with colSums := t.colSums, calSaturated := t.calSaturated })
  ∧ ∀ (r : ExposureRecord) (s : State),
    s.blk.colSums.length = 1600 → s.tbu.column.active.length = 1600 → r.width ≤ 1600 →
    let t := completeCalibration r s
    (∀ x, x < r.width →
      t.tbu.column.active.getD x 0
        = min ((4 * s.blk.colSums.getD x 0 + 8 * r.height) / (16 * r.height)) 4095)
    ∧ (∀ x, r.width ≤ x → t.tbu.column.active.getD x 0 = s.tbu.column.active.getD x 0)
    ∧ t.tbu.column.gen = (if s.tbu.column.gen = 65535 then 1 else s.tbu.column.gen + 1)
    ∧ t.tbu.column.pending = s.tbu.column.pending ∧ t.tbu.column.armed = s.tbu.column.armed
    ∧ t.tbu.profile = s.tbu.profile ∧ t.tbu.shade = s.tbu.shade ∧ t.tbu.parked = s.tbu.parked
    ∧ t.blk = { s.blk with drift := 0, calValid := true }
    ∧ (0 < r.width → ∃ least greatest : Nat,
      (∀ x, x < r.width → least ≤ t.tbu.column.active.getD x 0 ∧ t.tbu.column.active.getD x 0 ≤ greatest)
      ∧ (∃ x, x < r.width ∧ t.tbu.column.active.getD x 0 = least)
      ∧ (∃ x, x < r.width ∧ t.tbu.column.active.getD x 0 = greatest)
      ∧ t.lnk = s.lnk.raise
        (.event (.calDone t.tbu.column.gen r.width r.height least greatest s.blk.calSaturated)))
    ∧ t = { s with tbu := t.tbu, blk := t.blk, lnk := t.lnk }

/-! ## Rendering and coverage -/

/-- R49, R30, R69, R70, R71, R93, R123, R127, R155, R165, R187: a render starts on the oldest READY buffer; outside STREAMING,
with GEO at work or with no buffer READY, none starts. The PROFILE and then the SHADE commit are applied, so that their
events stand first, and then the gap ranges go to the row store one after another, so that a GAP_LOST stands behind them
(R187); that CVT's and BCF's work comes between is log 18. -/
def Obligations.RenderStartLatchesItsContext : Prop :=
  (∀ s : State, s.fsq.opState ≠ .streaming ∨ s.geo ≠ .idle ∨ s.fsq.readyOrder = [] → tryRenderStart s = s)
  ∧ ∀ (s : State) (i : BufferId) (rest : List BufferId) (f : Frame),
    s.fsq.opState = .streaming → s.geo = .idle → s.fsq.readyOrder = i :: rest →
    s.fsq.buffers.get i = .ready f →
    let t := tryRenderStart s
    let n := f.record.frameNumber
    let b0 := s.strip.record.b0
    let b1 := s.strip.record.b1
    let scan := s.bcf.scan f
    let start := s.cvt.renderStart s.strip.record f.position
    let committed := applyCommit .shade (.renderStart n) (applyCommit .profile (.renderStart n) s)
    let gapped := start.ranges.foldl (fun u g => takeGapRange g.1 g.2 n start.direction u) committed
    let bandTicks := (b1 + 1 - b0) * s.strip.record.p
    let takes := start.cvt.takeList.map (fun p => RowItem.take p.1 p.2)
    t.fsq = { s.fsq with buffers := s.fsq.buffers.set i (.rendering f), readyOrder := rest }
    ∧ t.bcf = scan.1 ∧ t.cvt = start.cvt ∧ t.tbu = committed.tbu ∧ t.lnk = gapped.lnk
    ∧ t.geo = .render
        { buffer := i
          context :=
            { frameNumber := n, position := f.position, roll := f.record.roll
              rollStale := f.record.rollStale, width := f.record.width, height := f.record.height
              columnGen := f.record.columnGen, direction := start.direction
              w := s.strip.record.w, depth := s.strip.record.depth, fill := s.strip.record.fill
              b0 := b0, b1 := b1
              rollTotal := (f.record.roll + s.strip.record.mount) % 4096
              cx := scan.1.centre.cx + scan.1.ox, cy := scan.1.centre.cy + scan.1.oy
              ox := scan.1.ox, oy := scan.1.oy, centreHeld := scan.2
              trims := s.ilc.trims, loopState := s.ilc.loop
              profile := committed.tbu.profile.active, shade := committed.tbu.shade.active
              profileGen := committed.tbu.profile.gen, shadeGen := committed.tbu.shade.gen }
          rows :=
            if ∃ p ∈ start.cvt.takeList, p.2 / 256 = (b0 + b1) / 2 then takes
            else takes ++ [.meter (256 * ((b0 + b1) / 2))]
          done := 0
          stats := List.replicate 8 ⟨0, 0, 0⟩ }
    ∧ t.odo =
        ({ gapped.odo with
          coverageTerm :=
            if 3 * bandTicks / 4 < start.cvt.advance then .slow
            else if start.cvt.advance ≤ bandTicks / 2 then .go
            else s.odo.coverageTerm }).reformLevel .streaming
    ∧ t.rws = gapped.rws.previewAtRender f
    ∧ t = { s with
        fsq := t.fsq, bcf := t.bcf, cvt := t.cvt, geo := t.geo, odo := t.odo, rws := t.rws, tbu := t.tbu, lnk := t.lnk }

/-- R155, R156: when a stream render start makes a preview due, what a due preview does, and what a preview holds: the
frame's values at columns 8i and rows 8j, divided by 16; its first tile is ready to send, and none is being sent. -/
def Obligations.PreviewIsDueMadeOrSkipped : Prop :=
  (∀ (r : Rws) (f : Frame),
      (r.nPrev = 0 → r.previewAtRender f = { r with previewCounter := 0 })
      ∧ (r.previewCounter + 1 < r.nPrev → r.previewAtRender f = { r with previewCounter := r.previewCounter + 1 })
      ∧ (0 < r.nPrev → r.nPrev ≤ r.previewCounter + 1 →
        r.previewAtRender f =
          match r.preview with
          | none => { r with previewCounter := 0, preview := some (makePreview f .render) }
          | some _ => { r with previewCounter := 0, skipCount := min (r.skipCount + 1) 65535 }))
  ∧ (∀ (f : Frame) (kind : PreviewKind),
      f.samples.length = f.record.height → (∀ row ∈ f.samples, row.length = f.record.width) →
      let p := makePreview f kind
      p.frameNumber = f.record.frameNumber ∧ p.position = f.position ∧ p.kind = kind
      ∧ p.wp = f.record.width / 8 ∧ p.hp = f.record.height / 8 ∧ p.nextTile = 0 ∧ p.sending = false
      ∧ p.lines.length = p.hp ∧ (∀ line ∈ p.lines, line.length = p.wp)
      ∧ ∀ i j, i < p.wp → j < p.hp → (p.lines.getD j []).getD i 0 = sampleAt f.samples (8 * i) (8 * j) / 16)

/-- R12, R13: the direction of a frame, the previous direction after it, and its advance. -/
def Obligations.DirectionAndAdvance : Prop :=
  ∀ (xf : Int) (prev : Travel),
    decideDirection xf none prev = (.forward, .forward) ∧ advanceOf xf none = 0
    ∧ ∀ x : Int,
      (x < xf → decideDirection xf (some x) prev = (.forward, .forward))
      ∧ (xf < x → decideDirection xf (some x) prev = (.reverse, .reverse))
      ∧ (xf = x → decideDirection xf (some x) prev = (.stopped, prev))
      ∧ (advanceOf xf (some x) : Int) = |xf - x|

/-- R10, R11: the band of a frame holds the wall rows whose strip position lies from B0 to B1, one fewer where the
frame's position is not a multiple of the pitch. R124, R122: step 3 of a render start leaves every row of the band
inside the coverage window: with an empty explored span it puts the window base 2048 rows behind the band, and otherwise it
moves the window by the least distance, and not at all when the band lies inside. R129: the take list holds the rows of the
band that are not FIRM, each with its strip position, and no other, in travel order. -/
def Obligations.BandLiesInTheWindowAndGivesTheTakeList : Prop :=
  (∀ (r : StripRecord) (xf : Int), 1 ≤ r.p → r.b0 ≤ r.b1 →
      (∀ n : Int, (bandMin r xf ≤ n ∧ n ≤ bandMax r xf) ↔
        (xf + r.z0 + r.b0 * r.p ≤ n * r.p ∧ n * r.p ≤ xf + r.z0 + r.b1 * r.p))
      ∧ ((xf + r.z0) % r.p = 0 → bandMax r xf - bandMin r xf + 1 = r.b1 - r.b0 + 1)
      ∧ ((xf + r.z0) % r.p ≠ 0 → bandMax r xf - bandMin r xf + 1 = (r.b1 : Int) - r.b0)
      ∧ ∀ n : Int, bandMin r xf ≤ n → n ≤ bandMax r xf →
        (stripPosition r xf n : Int) = ((n * r.p - xf - r.z0) * 512 + r.p) / (2 * r.p)
        ∧ 256 * r.b0 ≤ stripPosition r xf n ∧ stripPosition r xf n ≤ 256 * r.b1)
  ∧ (∀ (c : Cvt) (nMin nMax n : Int), nMax ≤ nMin + 511 → nMin ≤ n → n ≤ nMax →
      placedBase c nMin nMax ≤ n ∧ n ≤ placedBase c nMin nMax + 4095)
  ∧ (∀ (c : Cvt) (nMin nMax : Int), nMin ≤ nMax + 1 → nMax ≤ nMin + 511 →
      (c.span = none → placedBase c nMin nMax = nMin - 2048)
      ∧ (c.span ≠ none → c.wb + 4095 < nMax → placedBase c nMin nMax = nMax - 4095)
      ∧ (c.span ≠ none → nMin < c.wb → placedBase c nMin nMax = nMin)
      ∧ (c.span ≠ none → c.wb ≤ nMin → nMax ≤ c.wb + 4095 → placedBase c nMin nMax = c.wb))
  ∧ (∀ (c : Cvt) (r : StripRecord) (xf n : Int) (s : Nat) (travel : Travel),
      (n, s) ∈ c.buildTakeList r xf travel ↔
        bandMin r xf ≤ n ∧ n ≤ bandMax r xf ∧ (c.entryOf n).state ≠ .firm ∧ s = stripPosition r xf n)
  ∧ (∀ (c : Cvt) (r : StripRecord) (xf : Int),
      (c.buildTakeList r xf .forward).Pairwise (fun a b => a.1 < b.1)
      ∧ (c.buildTakeList r xf .reverse).Pairwise (fun a b => b.1 < a.1))

/-- R126, R127, R125, R128: the gaps of a render start: the rows of the old explored span outside the band, and those
between span and band, that were UNSEEN, in maximal runs, in travel order. The ring, the spans, the counts and the take
list (R129) after it. R121, R122: the window, the ring entry of an index, and the ever-explored range; an index outside the
window counts as UNSEEN with its mark clear. -/
def Obligations.GapsAreDeclaredOverThePassedRows : Prop :=
  (∀ (c : Cvt) (n : Int),
      (c.inWindow n = true ↔ c.wb ≤ n ∧ n ≤ c.wb + 4095)
      ∧ c.entryOf n =
        (if c.wb ≤ n ∧ n ≤ c.wb + 4095 then c.ring.getD (n - c.wb).toNat ⟨.unseen, false⟩ else ⟨.unseen, false⟩)
      ∧ (c.everExplored n = true ↔ ∃ lo hi, c.ever = some (lo, hi) ∧ lo ≤ n ∧ n ≤ hi))
  ∧ ∀ (c : Cvt) (r : StripRecord) (xf : Int),
    c.ring.length = 4096 → bandMin r xf ≤ bandMax r xf + 1 →
    let nMin := bandMin r xf
    let nMax := bandMax r xf
    let start := c.renderStart r xf
    let t := start.cvt
    let candidate (n : Int) : Prop :=
      (∃ lo hi, c.span = some (lo, hi) ∧ (lo ≤ n ∧ n < nMin ∨ nMax < n ∧ n ≤ hi)) ∧ (c.entryOf n).state = .unseen
    (∀ n, (∃ g ∈ start.ranges, g.1 ≤ n ∧ n ≤ g.2) ↔ candidate n)
    ∧ (∀ g ∈ start.ranges, g.1 ≤ g.2 ∧ (g.1 = nMax + 1 ∨ ¬ candidate (g.1 - 1)) ∧ (g.2 + 1 = nMin ∨ ¬ candidate (g.2 + 1)))
    ∧ (t.prevDir = .forward → start.ranges.Pairwise (fun a b => a.2 < b.1))
    ∧ (t.prevDir = .reverse → start.ranges.Pairwise (fun a b => b.2 < a.1))
    ∧ t.takeList = t.buildTakeList r xf t.prevDir
    ∧ t.wb = placedBase c nMin nMax
    ∧ (∀ n, t.inWindow n = true →
      (candidate n → (t.entryOf n).state = .gap)
      ∧ (¬ candidate n → (t.entryOf n).state = (c.entryOf n).state)
      ∧ (t.entryOf n).revisit = if c.inWindow n then (c.entryOf n).revisit else c.everExplored n)
    ∧ t.span =
        (match c.span with
        | some (lo, hi) => some (max (min lo nMin) t.wb, min (max hi nMax) (t.wb + 4095))
        | none => if nMin ≤ nMax then some (max nMin t.wb, min nMax (t.wb + 4095)) else none)
    ∧ t.ever =
        (match c.ever with
        | some (lo, hi) => some (min lo nMin, max hi nMax)
        | none => if nMin ≤ nMax then some (nMin, nMax) else none)
    ∧ t.counts = ⟨0, 0, 0, 0, 0, 0, (start.ranges.map (fun g => (g.2 - g.1 + 1).toNat)).sum⟩
    ∧ t.xprev = some xf ∧ t.advance = advanceOf xf c.xprev
    ∧ (start.direction, t.prevDir) = decideDirection xf c.xprev c.prevDir

/-- R131, R132, R133: the decision on a completed take row. -/
def Obligations.RowDecision : Prop :=
  ∀ (c : Cvt) (row : RowEntry) (slotFree : Bool), c.inWindow row.row = true →
    let e := c.entryOf row.row
    let soft := row.flags.unsettled || row.flags.saturated
    let c' := (c.decide row slotFree).1
    let stored := (c.decide row slotFree).2
    ((e.state = .unseen ∨ e.state = .gap) → slotFree = true →
      stored = some
        { row with
          kind := .take
          flags := { row.flags with late := decide (e.state = .gap), revisit := e.revisit } }
      ∧ c' =
        { c with
          ring := c.ring.set (row.row - c.wb).toNat { e with state := if soft then .soft else .firm }
          counts := { c.counts with
            taken := c.counts.taken + 1
            late := c.counts.late + (if e.state = .gap then 1 else 0)
            revisit := c.counts.revisit + (if e.revisit then 1 else 0) } })
    ∧ ((e.state = .unseen ∨ e.state = .gap) → slotFree = false →
      stored = none ∧ c' = { c with counts := { c.counts with skips := c.counts.skips + 1 } })
    ∧ (e.state = .soft → soft = false → slotFree = true →
      stored = some { row with kind := .retake }
      ∧ c' =
        { c with
          ring := c.ring.set (row.row - c.wb).toNat { e with state := .firm }
          counts := { c.counts with retaken := c.counts.retaken + 1 } })
    ∧ (e.state = .soft → (soft = true ∨ slotFree = false) →
      stored = none ∧ c' = { c with counts := { c.counts with rejected := c.counts.rejected + 1 } })

/-- R72, R71, R80, R84: what a completed row hands on: a take row goes to CVT for its decision and, if CVT stores it, behind
every entry of the store; a meter row goes nowhere. A row that is not the last adds its statistics, and the next row is
rendered. R80: what a row adds to the eight sectors. R83, R84: the counts, the flags and the items of a row's result. R142,
R143: the row count, the fill, and when a row slot is free. R71, R72: a row is rendered at its own strip position. A
completion outside RENDER changes nothing: log 4. -/
def Obligations.RowCompletionGoesOnToTheNextRow : Prop :=
  (∀ (k : RenderContext) (pixels : List Pixel) (s : State),
      (∀ sp, handOn k (.meter sp) pixels s = s)
      ∧ ∀ n sp,
        let d := s.cvt.decide (rowResult k .take n sp (decide (k.loopState ≠ .locked)) pixels) s.rws.rowSlotFree
        (d.2 = none → handOn k (.take n sp) pixels s = { s with cvt := d.1 })
        ∧ ∀ e, d.2 = some e →
          handOn k (.take n sp) pixels s =
            { s with
              cvt := d.1
              rws := { s.rws with entries := s.rws.entries ++ [.row e] }
              odo := ({ s.odo with
                storeTerm := storeTermAfter s.odo.advisory (s.rws.entries.length + 1) s.odo.storeTerm }).reformLevel
                  s.fsq.opState })
  ∧ (∀ (s : State) (w : RenderWork) (f : Frame) (item : RowItem),
      s.geo = .render w → s.fsq.buffers.get w.buffer = .rendering f → w.rows[w.done]? = some item →
      w.done + 1 < w.rows.length →
      let pixels := renderRow w.context f.samples item.position
      exec .rowCompletion s = .next (settle
        { handOn w.context item pixels s with
          geo := .render { w with done := w.done + 1, stats := addStatistics w.stats pixels } }))
  ∧ (∀ (stats : List SectorStat) (pixels : List Pixel),
      (addStatistics stats pixels).length = stats.length
      ∧ ∀ k, k < stats.length →
        let old := stats.getD k ⟨0, 0, 0⟩
        let mine := pixels.filter (fun p => !p.clipped && p.sector == k)
        (addStatistics stats pixels).getD k ⟨0, 0, 0⟩ =
          { count := old.count + mine.length
            sum := old.sum + (mine.map (·.u)).sum
            saturated := old.saturated + (mine.filter (·.saturated)).length })
  ∧ (∀ (k : RenderContext) (kind : RowKind) (row : Int) (s : Nat) (unsettled : Bool) (pixels : List Pixel),
      let clipped := pixels.countP (·.clipped)
      let saturated := pixels.countP (·.saturated)
      rowResult k kind row s unsettled pixels =
        { kind := kind, row := row, frameNumber := k.frameNumber, position := k.position, s := s
          direction := k.direction, rollTotal := k.rollTotal, cx := k.cx, cy := k.cy
          profileGen := k.profileGen, shadeGen := k.shadeGen, columnGen := k.columnGen
          flags :=
            { unsettled := unsettled, saturated := decide (k.w / 64 < saturated), late := false, revisit := false
              rollStale := k.rollStale, centreHeld := k.centreHeld, clipped := decide (k.w / 8 < clipped) }
          clipCount := clipped, satCount := saturated, w := k.w, depth := k.depth
          pixels := pixels.map (·.value) })
  ∧ (∀ r : Rws,
      r.rowCount = r.entries.countP (fun e => match e with | .row _ => true | .gap _ => false)
      ∧ r.fill = r.entries.length
      ∧ (r.rowSlotFree = true ↔ r.rowCount < 1008 ∧ r.fill < 1024))
  ∧ (∀ (n : Int) (sp : Nat), (RowItem.take n sp).position = sp ∧ (RowItem.meter sp).position = sp)
  ∧ ∀ s : State, (∀ w, s.geo ≠ .render w) → exec .rowCompletion s = .next (settle s)

/-- R85, R50, R110, R186, R187: the last row of a render: ILC makes its update, the buffer is released, GEO is idle, the
frame summary and then the pending phase errors are raised, and the tests of R49 and R39 follow. R185: what raising an item
does, and what a full control queue does to it: a summary is lost, an event takes the place of the oldest summary, and is
lost if there is none. The two counts of lost items stay at their top: log 17; the summary's advance is the one kept from
the render start: log 24. -/
def Obligations.RenderCompletionReleasesAndReports : Prop :=
  (∀ (s : State) (w : RenderWork) (f : Frame) (item : RowItem),
      s.geo = .render w → s.fsq.buffers.get w.buffer = .rendering f → w.rows[w.done]? = some item →
      w.rows.length = w.done + 1 →
      let pixels := renderRow w.context f.samples item.position
      let h := handOn w.context item pixels s
      let u := h.ilc.onStatistics w.context.frameNumber (addStatistics w.stats pixels) w.context.trims
      let summary : Summary :=
        { frameNumber := w.context.frameNumber, position := w.context.position, direction := w.context.direction
          advance := h.cvt.advance, counts := h.cvt.counts, meterRow := hasMeterRow w.rows
          loopState := u.1.loop, drives := u.1.drives, trims := u.1.trims, posts := u.2
          advisory := h.odo.level, speed := h.odo.speed, ox := w.context.ox, oy := w.context.oy
          centreHeld := w.context.centreHeld, roll := w.context.roll, rollStale := w.context.rollStale
          profileGen := w.context.profileGen, shadeGen := w.context.shadeGen, columnGen := w.context.columnGen }
      let released : State :=
        { h with
          geo := .idle
          ilc := u.1
          fsq := { h.fsq with
            buffers := h.fsq.buffers.set w.buffer (if h.fsq.holdMark then .held f else .free)
            holdMark := false } }
      let reported :=
        raise (.summary summary)
          (if h.fsq.holdMark then raiseEvent (.heldReady f.record.frameNumber) released else released)
      exec .rowCompletion s = .next (settle (stopTest (tryRenderStart
        (if h.odo.phasePending = 0 then reported
         else
          raiseEvent (.phaseError h.odo.phasePending h.odo.phaseRunning)
            { reported with odo := { h.odo with phasePending := 0 } })))))
  ∧ (∀ (l : Lnk) (i : ControlItem),
      (l.controlQueue.length < 32 → l.raise i = { l with controlQueue := l.controlQueue ++ [i] })
      ∧ (32 ≤ l.controlQueue.length →
        (i.isSummary = true → l.raise i = { l with summariesDropped := min (l.summariesDropped + 1) 4294967295 })
        ∧ (i.isSummary = false → ∀ front oldest behind, l.controlQueue = front ++ oldest :: behind →
            (∀ x ∈ front, x.isSummary = false) → oldest.isSummary = true →
            l.raise i =
              { l with
                controlQueue := front ++ behind ++ [i]
                summariesDropped := min (l.summariesDropped + 1) 4294967295 })
        ∧ (i.isSummary = false → (∀ x ∈ l.controlQueue, x.isSummary = false) →
            l.raise i = { l with eventsDropped := min (l.eventsDropped + 1) 4294967295 })))
  ∧ (∀ rows : List RowItem, hasMeterRow rows = true ↔ ∃ sp, .meter sp ∈ rows)
  ∧ (∀ i : ControlItem, i.isSummary = true ↔ ∃ m, i = .summary m)
  ∧ (∀ (i : ControlItem) (s : State), raise i s = { s with lnk := s.lnk.raise i })
  ∧ (∀ (e : Event) (s : State), raiseEvent e s = { s with lnk := s.lnk.raise (.event e) })

/-- R54, R57: every raw and every stored sample of a readout: the pattern's, or the sensor's, corrected; a saturated raw sample
stays 4095, and correction never makes one; the sample at a column and a row. A place the operand does not list reads as 0: log 9. R66, R67: a dark frame's
measurement and what it does to the drift; with every sample saturated nothing is measured. R73 to R79, R81, R82: an output
pixel whose neighbourhood lies inside the window, and a clipped one, with the sine of R75, the shading gain of R79 and the
row of R72; the trim is spelled in SectorTrimIsBlended. R82: no output pixel exceeds 4095 at depth 12, or 255 at depth 8. -/
def Obligations.SamplesAndPixelsFollowTheirStages : Prop :=
  (∀ (r : ExposureRecord) (raw : List (List Sample)) (column : List Nat) (drift : Int), r.width ≤ column.length →
      let rows := rawSamples r raw
      let stored := storedSamples r column drift rows
      rows.length = r.height ∧ (∀ row ∈ rows, row.length = r.width)
      ∧ stored.length = r.height ∧ (∀ row ∈ stored, row.length = r.width)
      ∧ ∀ x y, x < r.width → y < r.height →
        (r.source = .pattern →
          sampleAt rows x y = (x + y + r.frameNumber) % 4094 ∧ sampleAt stored x y = sampleAt rows x y)
        ∧ (r.source = .sensor →
          sampleAt rows x y = ((raw.getD y []).getD x 0).toNat
          ∧ sampleAt stored x y =
            (if sampleAt rows x y = 4095 then 4095
             else (max 0 (min 4094
              ((sampleAt rows x y : Int) - ((column.getD x 0 : Int) + drift + 2) / 4))).toNat)
          ∧ (sampleAt stored x y = 4095 ↔ sampleAt rows x y = 4095)))
  ∧ (∀ (samples : List (List Nat)) (x y : Nat), sampleAt samples x y = (samples.getD y []).getD x 0)
  ∧ (∀ (b : Blk) (column : List Nat) (rows : List (List Nat)),
      let dark := rows.flatMap (fun row => (column.zip row).filter (fun p => decide (p.2 < 4095)))
      let d := ((dark.map (fun p => 4 * (p.2 : Int) - p.1)).sum + ((dark.length / 2 : Nat) : Int)) / (dark.length : Int)
      b.measureDark column rows =
        if dark = [] then b
        else
          { b with
            lastDark := d
            darkMeasured := min (b.darkMeasured + 1) 65535
            drift := max (-1024) (min 1024 (b.drift + (d - b.drift + 4) / 8)) })
  ∧ (∀ i, i ≤ 1024 → |(sineEntry i : ℝ) - 16384 * Real.sin (2 * Real.pi * i / 4096)| ≤ 1 / 2)
  ∧ (∀ i, i ≤ 1024 →
      sinOf i = sineEntry i
      ∧ sinOf (1024 + i) = sineEntry (1024 - i)
      ∧ sinOf (2048 + i) = -(sineEntry i : Int)
      ∧ (i < 1024 → sinOf (3072 + i) = -(sineEntry (1024 - i) : Int)))
  ∧ (∀ (shade : List Nat) (a s : Nat),
      let g (ka kb : Nat) := shade.getD (ka * 17 + kb) 0
      let ka := a / 128
      let fa := a % 128
      let kb := s / 256 / 32
      let fb := s / 256 % 32
      let ka' := (ka + 1) % 32
      shadeGain shade a s =
        ((128 - fa) * (32 - fb) * g ka kb + fa * (32 - fb) * g ka' kb + (128 - fa) * fb * g ka (kb + 1)
          + fa * fb * g ka' (kb + 1) + 2048) / 4096)
  ∧ (∀ (k : RenderContext) (samples : List (List Nat)) (s c : Nat),
      let a := (c * (4096 / k.w) + k.rollTotal) % 4096
      let lo : Int := k.profile.getD (s / 2048) 0
      let hi : Int := k.profile.getD (s / 2048 + 1) 0
      let rho : Int := lo + ((hi - lo) * ((s % 2048 : Nat) : Int) + 1024) / 2048
      let sx : Int := k.cx + (rho * sinOf a + 8192) / 16384
      let sy : Int := k.cy - (rho * sinOf ((a + 1024) % 4096) + 8192) / 16384
      let inside := 0 ≤ sx / 16 ∧ sx / 16 ≤ (k.width : Int) - 2 ∧ 0 ≤ sy / 16 ∧ sy / 16 ≤ (k.height : Int) - 2
      let scaled (w : Nat) : Nat := if k.depth = 8 then min ((w + 8) / 16) 255 else w
      (¬ inside → renderPixel k samples s c = ⟨scaled k.fill, true, false, a / 512, 0⟩)
      ∧ (inside →
        let ix := (sx / 16).toNat
        let iy := (sy / 16).toNat
        let fx := (sx % 16).toNat
        let fy := (sy % 16).toNat
        let p (b d : Nat) : Nat := sampleAt samples (ix + b) (iy + d)
        let v := ((16 - fx) * (16 - fy) * p 0 0 + fx * (16 - fy) * p 1 0 + (16 - fx) * fy * p 0 1 + fx * fy * p 1 1 + 128) / 256
        let u := min ((v * shadeGain k.shade a s + 2048) / 4096) 65535
        let w := min ((u * trimAt k.trims a + 2048) / 4096) 4095
        renderPixel k samples s c
          = ⟨scaled w, false, p 0 0 == 4095 || p 1 0 == 4095 || p 0 1 == 4095 || p 1 1 == 4095, a / 512, u⟩))
  ∧ (∀ (k : RenderContext) (samples : List (List Nat)) (s : Nat),
      renderRow k samples s = (List.range k.w).map (renderPixel k samples s))
  ∧ (∀ (k : RenderContext) (samples : List (List Nat)) (s c : Nat), k.fill ≤ 4095 →
      (renderPixel k samples s c).value ≤ 4095
      ∧ (k.depth = 8 → (renderPixel k samples s c).value ≤ 255))

/-- R81: the sector trim at an angle is blended between the trims of the two sectors whose centres lie on either side; at the
centre of a sector it is that sector's trim, and it stays in the trims' range. A pixel's own sector, under which its
statistics are kept, is one of the two. -/
def Obligations.SectorTrimIsBlended : Prop :=
  ∀ (trims : List Nat) (a : Nat), a < 4096 →
    let a' := (((a : Int) - 256) % 4096).toNat
    let k := a' / 512
    let f := a' % 512
    trimAt trims a = ((512 - f) * trims.getD k 0 + f * trims.getD ((k + 1) % 8) 0 + 256) / 512
    ∧ (∀ j, j < 8 → a = 512 * j + 256 → trimAt trims a = trims.getD j 0)
    ∧ (trims.length = 8 → (∀ t ∈ trims, 4096 ≤ t ∧ t ≤ 16383) → 4096 ≤ trimAt trims a ∧ trimAt trims a ≤ 16383)
    ∧ (a / 512 = k ∨ a / 512 = (k + 1) % 8)
    ∧ (∀ (ctx : RenderContext) (samples : List (List Nat)) (s c : Nat),
      (c * (4096 / ctx.w) + ctx.rollTotal) % 4096 = a → (renderPixel ctx samples s c).sector = a / 512)

/-- R93, R96, R97, R98: BCF's action at a render start. R94, R95: the dark places: those of the grid of 64 by 64 around the
current centre that lie in the window and hold a value below the threshold that is not 4095, each once. -/
def Obligations.ScanMovesOrHoldsTheOffset : Prop :=
  ∀ (b : Bcf) (f : Frame),
    let dark := darkPlaces b f
    let count := dark.length
    dark.Nodup
    ∧ (∀ x y : Nat, (x, y) ∈ dark ↔
      (∃ i k : Nat, i < 64 ∧ k < 64 ∧ (x : Int) = (b.centre.cx + b.ox) / 16 - 128 + 4 * i
        ∧ (y : Int) = (b.centre.cy + b.oy) / 16 - 128 + 4 * k)
      ∧ x < f.record.width ∧ y < f.record.height
      ∧ sampleAt f.samples x y < b.centre.threshold ∧ sampleAt f.samples x y ≠ 4095)
    ∧
    let mx : Int := ((16 * (dark.map (·.1)).sum + count / 2) / count : Nat)
    let my : Int := ((16 * (dark.map (·.2)).sum + count / 2) / count : Nat)
    let moved (off m c : Int) : Int :=
      clampInt (off + (m - (c + off) + 4) / 8) (-(b.centre.maxoff : Int)) b.centre.maxoff
    (b.centre.follow = false → b.scan f = ({ b with lastScan := .off f.record.frameNumber }, false))
    ∧ (b.centre.follow = true → count < b.centre.mincount →
        b.scan f = ({ b with lastScan := .held f.record.frameNumber count }, true))
    ∧ (b.centre.follow = true → b.centre.mincount ≤ count →
        b.scan f =
          ({ b with
              ox := moved b.ox mx b.centre.cx
              oy := moved b.oy my b.centre.cy
              lastScan := .updated f.record.frameNumber count mx my }, false))

/-- R114: the cap rule scales a set of drives above the cap, never raises one, and keeps the sum within the cap. R113,
R116: a drive or a trim moves a quarter of the way toward its target, at least by one, and never past it. 00_scope.md,
Conventions: clamp(v, lo, hi). -/
def Obligations.CapRuleAndQuarterStep : Prop :=
  (∀ (cap : Nat) (drives : List Nat),
      (capRule cap drives).sum ≤ cap
      ∧ (drives.sum ≤ cap → capRule cap drives = drives)
      ∧ (cap < drives.sum → capRule cap drives = drives.map (fun d => d * cap / drives.sum))
      ∧ ∀ k, (capRule cap drives).getD k 0 ≤ drives.getD k 0)
  ∧ (∀ cur target : Nat,
      let next := quarterStep cur target
      (cur = target → next = cur)
      ∧ (cur < target → next = cur + max 1 ((target - cur) / 4) ∧ cur < next ∧ next ≤ target)
      ∧ (target < cur → next + max 1 ((cur - target) / 4) = cur ∧ target ≤ next ∧ next < cur))
  ∧ (∀ v lo hi : Int, lo ≤ hi → clampInt v lo hi = max lo (min v hi))
  ∧ (∀ v lo hi : Nat, lo ≤ hi → clampNat v lo hi = max lo (min v hi))

/-- R110, R111, R112, R113, R114, R115, R116, R117, R118: what ILC makes of a render's statistics: nothing in DARK, one stale
frame fewer, or an update: the drives after their steps and the cap, the trims after theirs, the lock count, the post means
for the summary, and the last update record. -/
def Obligations.IlluminationUpdateFollowsItsStages : Prop :=
  ∀ (i : Ilc) (frameNumber : Nat) (stats : List SectorStat) (latched : List Nat),
    let u := i.onStatistics frameNumber stats latched
    (i.loop = .dark → u = (i, List.replicate 8 none))
    ∧ (i.loop ≠ .dark → 0 < i.stale → u = ({ i with stale := i.stale - 1 }, List.replicate 8 none))
    ∧ (i.loop ≠ .dark → i.stale = 0 →
      stats.length = 8 → latched.length = 8 → i.drives.length = 8 → i.trims.length = 8 →
      let count (k : Nat) := (stats.getD k ⟨0, 0, 0⟩).count
      let mean (k : Nat) := max 1 (((stats.getD k ⟨0, 0, 0⟩).sum + count k / 2) / count k)
      let post (k : Nat) := (mean k * latched.getD k 0 + 2048) / 4096
      let drive (k : Nat) := i.drives.getD k 0
      let saturated (k : Nat) : Prop := count k < (stats.getD k ⟨0, 0, 0⟩).saturated * 64
      let quotient (k : Nat) := drive k * i.light.t / mean k
      let target (k : Nat) :=
        if saturated k then drive k / 2
        else clampNat (clampNat (quotient k) (drive k / 2) (2 * drive k)) 16 1023
      let stepped := (List.range 8).map (fun k => if count k = 0 then drive k else quarterStep (drive k) (target k))
      let held (k : Nat) : Prop :=
        ¬ saturated k ∧ 1023 < quotient k ∨ u.1.drives.getD k 0 < stepped.getD k 0
      let settled (k : Nat) : Prop := count k = 0 ∨ post k ≤ i.light.t + i.light.tol ∧ i.light.t ≤ post k + i.light.tol
      let clean : Prop := ∀ k, k < 8 → settled k
      u.1.drives = capRule i.light.cap stepped
      ∧ u.1.trims = (List.range 8).map (fun k =>
          if count k = 0 then i.trims.getD k 0
          else
            quarterStep (i.trims.getD k 0)
              (if held k ∧ mean k < i.light.t then clampNat (i.light.t * 4096 / mean k) 4096 16383 else 4096))
      ∧ u.2 = (List.range 8).map (fun k => if count k = 0 then none else some (post k))
      ∧ u.1.lastUpdate = some
        { frameNumber := frameNumber
          sectors := (List.range 8).map (fun k =>
            { count := count k
              saturated := (stats.getD k ⟨0, 0, 0⟩).saturated
              mean := if count k = 0 then none else some (mean k)
              post := if count k = 0 then none else some (post k)
              settled := decide (settled k)
              pinnedHigh := decide (count k ≠ 0 ∧ ¬ saturated k ∧ 1023 < quotient k)
              capped := decide (u.1.drives.getD k 0 < stepped.getD k 0) }) }
      ∧ (i.loop = .seeking → clean → 3 ≤ i.clean + 1 →
          u.1.loop = .locked ∧ u.1.clean = 0 ∧ u.1.unsettled = 0)
      ∧ (i.loop = .seeking → clean → i.clean + 1 < 3 →
          u.1.loop = .seeking ∧ u.1.clean = i.clean + 1 ∧ u.1.unsettled = i.unsettled)
      ∧ (i.loop = .seeking → ¬ clean → u.1.loop = .seeking ∧ u.1.clean = 0 ∧ u.1.unsettled = i.unsettled)
      ∧ (i.loop = .locked → clean → u.1.loop = .locked ∧ u.1.clean = i.clean ∧ u.1.unsettled = 0)
      ∧ (i.loop = .locked → ¬ clean → 2 ≤ i.unsettled + 1 →
          u.1.loop = .seeking ∧ u.1.clean = 0 ∧ u.1.unsettled = 0)
      ∧ (i.loop = .locked → ¬ clean → i.unsettled + 1 < 2 →
          u.1.loop = .locked ∧ u.1.clean = i.clean ∧ u.1.unsettled = i.unsettled + 1)
      ∧ u.1.light = i.light ∧ u.1.stale = 0)

/-- R153, R89, R143: a trial row is stored as a TRIAL entry when a row slot is free, or waits with GEO in TRIAL_WAIT; after
the last row is stored, TRIAL_DONE is raised and GEO is idle. A completion outside TRIAL changes nothing: log 4. -/
def Obligations.TrialRowIsStoredOrWaits : Prop :=
  (∀ (s : State) (w : TrialWork) (e : RowEntry),
      let stored : State :=
        { s with
          rws := { s.rws with entries := s.rws.entries ++ [.row e] }
          odo := ({ s.odo with
            storeTerm := storeTermAfter s.odo.advisory (s.rws.entries.length + 1) s.odo.storeTerm }).reformLevel
              s.fsq.opState }
      storeTrialRow w e s =
        if w.done + 1 < w.rows.length then { stored with geo := .trial { w with done := w.done + 1 } }
        else
          raiseEvent (.trialDone w.context.frameNumber w.rows.length w.context.profileGen w.context.shadeGen)
            { stored with geo := .idle })
  ∧ (∀ (s : State) (w : TrialWork) (f : Frame) (r : Nat),
      s.geo = .trial w → s.fsq.buffers.get w.buffer = .held f → w.rows[w.done]? = some r →
      let e := rowResult w.context .trial r (r * 256) false (renderRow w.context f.samples (r * 256))
      exec .trialRowCompletion s = .next (settle (
        if s.rws.rowCount < 1008 ∧ s.rws.fill < 1024 then storeTrialRow w e s else { s with geo := .trialWait w e })))
  ∧ ∀ s : State, (∀ w, s.geo ≠ .trial w) → exec .trialRowCompletion s = .next (settle s)

/-! ## The row store and the downlink -/

/-- R145, R146: a gap range merges into the newest unsent GAP entry, is stored in a gap slot, or is lost and reported. R145:
which GAP entry is the newest unsent one: behind it there is none, and it is not the one in transmission. -/
def Obligations.GapRangeIsMergedStoredOrLost : Prop :=
  (∀ (r : Rws) (i : Nat) (g : GapEntry),
    r.newestUnsentGap = some (i, g) ↔
      r.entries[i]? = some (.gap g) ∧ (r.wallSending = true → 1 ≤ i)
      ∧ ∀ j g', i < j → r.entries[j]? ≠ some (.gap g'))
  ∧ ∀ (nFirst nLast : Int) (frameNumber : Nat) (d : Direction) (s : State),
    let t := takeGapRange nFirst nLast frameNumber d s
    (∀ i g, s.rws.newestUnsentGap = some (i, g) → g.direction = d → (nFirst = g.nLast + 1 ∨ nLast = g.nFirst - 1) →
      t = { s with
        rws := { s.rws with
          entries := s.rws.entries.set i
            (.gap { g with nFirst := min g.nFirst nFirst, nLast := max g.nLast nLast }) } })
    ∧ ((∀ i g, s.rws.newestUnsentGap = some (i, g) →
          ¬ (g.direction = d ∧ (nFirst = g.nLast + 1 ∨ nLast = g.nFirst - 1))) →
      (s.rws.entries.length < 1024 →
        t = { s with
          rws := { s.rws with entries := s.rws.entries ++ [.gap ⟨nFirst, nLast, frameNumber, d⟩] }
          odo := ({ s.odo with
            storeTerm := storeTermAfter s.odo.advisory (s.rws.entries.length + 1) s.odo.storeTerm }).reformLevel
              s.fsq.opState })
      ∧ (1024 ≤ s.rws.entries.length →
        let lost := min (s.rws.lostGapRows + (nLast - nFirst + 1).toNat) 4294967295
        t = raiseEvent (.gapLost nFirst nLast frameNumber d lost)
          { s with rws := { s.rws with lostGapRows := lost } }))

/-- R177, R148, R27, R185, R156: the ends of the transmissions. After a reply the commands that wait are taken; after a
wall report its slot is free, the store term follows the fill, and a trial render that waits stores its kept row if a row
slot is free. A report whose slot or preview a reset has emptied frees nothing more (R157). An end that does not belong to
the message in transmission, be it of another kind or none, changes nothing (log 4). -/
def Obligations.EndOfATransmission : Prop :=
  ∀ s : State,
    let freed : Lnk := { s.lnk with tx := none }
    (∀ r, s.lnk.tx = some (.reply r) →
      exec .replyTransmitted s = .next (settle (takeCommands { s with lnk := freed })))
    ∧ (∀ seq e, s.lnk.tx = some (.wall seq e) →
      let entries := if s.rws.wallSending then s.rws.entries.drop 1 else s.rws.entries
      let sent : State :=
        { s with
          lnk := freed
          rws := { s.rws with entries := entries, wallSending := false }
          odo := ({ s.odo with
            storeTerm := storeTermAfter s.odo.advisory entries.length s.odo.storeTerm }).reformLevel s.fsq.opState }
      ((∀ w k, s.geo ≠ .trialWait w k) → exec .wallReportTransmitted s = .next (settle sent))
      ∧ ∀ w k, s.geo = .trialWait w k →
        exec .wallReportTransmitted s = .next (settle (
          if sent.rws.rowCount < 1008 ∧ sent.rws.fill < 1024 then storeTrialRow w k sent else sent)))
    ∧ (∀ m, s.lnk.tx = some (.marker m) →
      exec .markerReportTransmitted s = .next (settle { s with lnk := freed, odo := { s.odo with up := none } }))
    ∧ (∀ i, s.lnk.tx = some (.control i) →
      exec .controlItemTransmitted s = .next (settle { s with lnk := freed }))
    ∧ (∀ k, s.lnk.tx = some (.tile k) →
      ((∀ p, s.rws.preview = some p → p.sending = false) →
        exec .previewTileTransmitted s = .next (settle { s with lnk := freed }))
      ∧ ∀ p, s.rws.preview = some p → p.sending = true →
        exec .previewTileTransmitted s = .next (settle
          { s with
            lnk := freed
            rws := { s.rws with
              preview :=
                if (p.hp + 7) / 8 ≤ p.nextTile + 1 then none
                else some { p with nextTile := p.nextTile + 1, sending := false } } }))
    ∧ ((∀ r, s.lnk.tx ≠ some (.reply r)) → exec .replyTransmitted s = .next (settle s))
    ∧ ((∀ seq e, s.lnk.tx ≠ some (.wall seq e)) → exec .wallReportTransmitted s = .next (settle s))
    ∧ ((∀ m, s.lnk.tx ≠ some (.marker m)) → exec .markerReportTransmitted s = .next (settle s))
    ∧ ((∀ i, s.lnk.tx ≠ some (.control i)) → exec .controlItemTransmitted s = .next (settle s))
    ∧ ((∀ k, s.lnk.tx ≠ some (.tile k)) → exec .previewTileTransmitted s = .next (settle s))

/-- R184, R185, R147, R156, R23: what the two transmitters start at the end of a step: that they look there is log 7 and
log 8. A reply or a refusal leaves its queue when its transmission starts: log 16. What each of the three streams has on
offer, and the order of their turns. R155, R156: the tile that a preview offers next. R23: what the crawler port starts when
it is idle: a due advisory line before the oldest response; a response leaves its queue then: log 16. The end of a step
touches nothing but the two transmitters and what they draw on. -/
def Obligations.SettleStartsOnlyWhatIsOnOffer : Prop :=
  (∀ s : State,
      let kicked := s.odo.portKick
      (s.lnk.tx ≠ none → settle s = { s with odo := kicked })
      ∧ (s.lnk.tx = none → ∀ r rest, s.lnk.replies = r :: rest →
          settle s = { s with odo := kicked, lnk := { s.lnk with replies := rest, tx := some (.reply r) } })
      ∧ (s.lnk.tx = none → s.lnk.replies = [] → turn s = none → settle s = { s with odo := kicked })
      ∧ (s.lnk.tx = none → s.lnk.replies = [] → turn s = some .wall → ∀ e rest, s.rws.entries = e :: rest →
          settle s =
            { s with
              odo := kicked
              rws := { s.rws with wallSending := true, seq := (s.rws.seq + 1) % 65536 }
              lnk := { s.lnk with tx := some (.wall s.rws.seq e), pointer := .control } })
      ∧ (s.lnk.tx = none → s.lnk.replies = [] → turn s = some .control → ∀ m, s.odo.up = some m →
          settle s = { s with odo := kicked, lnk := { s.lnk with tx := some (.marker m), pointer := .preview } })
      ∧ (s.lnk.tx = none → s.lnk.replies = [] → turn s = some .control → s.odo.up = none →
          ∀ i rest, s.lnk.controlQueue = i :: rest →
          settle s =
            { s with
              odo := kicked
              lnk := { s.lnk with controlQueue := rest, tx := some (.control i), pointer := .preview } })
      ∧ (s.lnk.tx = none → s.lnk.replies = [] → turn s = some .preview → ∀ p, s.rws.preview = some p →
          settle s =
            { s with
              odo := kicked
              rws := { s.rws with preview := some { p with sending := true } }
              lnk := { s.lnk with tx := some (.tile p.tile), pointer := .wall } })
      ∧ (∀ d, turn s = some d ↔
          offers s d = true ∧ (d = s.lnk.pointer ∨ offers s s.lnk.pointer = false
            ∧ (d = s.lnk.pointer.next ∨ offers s s.lnk.pointer.next = false ∧ d = s.lnk.pointer.next.next))))
  ∧ (∀ s : State,
      (offers s .wall = true ↔ s.rws.wallSending = false ∧ s.rws.entries ≠ [])
      ∧ (offers s .control = true ↔ s.odo.up ≠ none ∨ s.lnk.controlQueue ≠ [])
      ∧ (offers s .preview = true ↔ s.rws.preview ≠ none))
  ∧ [DownStream.wall, .control, .preview].map DownStream.next = [.control, .preview, .wall]
  ∧ (∀ p : Preview,
      p.tile =
        { frameNumber := p.frameNumber, position := p.position, kind := p.kind, wp := p.wp, hp := p.hp
          tile := p.nextTile, tiles := (p.hp + 7) / 8, lines := (p.lines.drop (8 * p.nextTile)).take 8 })
  ∧ (∀ o : Odo,
      (o.portTx ≠ none → o.portKick = o)
      ∧ (o.portTx = none → o.advisoryDue = true →
        o.portKick = { o with portTx := some (.advisory o.level), advisoryDue := false })
      ∧ (o.portTx = none → o.advisoryDue = false → ∀ r rest, o.responses = r :: rest →
        o.portKick = { o with portTx := some (.response r), responses := rest })
      ∧ (o.portTx = none → o.advisoryDue = false → o.responses = [] → o.portKick = o))
  ∧ (∀ s : State, (settle s).withoutTransmitters = s.withoutTransmitters)

/-- R172, R178, R187, R189 and the rules of each report (R27, R150, R151, R156, R186): what the part puts on the tether and on
the crawler port (R23, R29, R32): fields, their sizes and their order, the codings, the CRC and the frame. R181: the fields
of the eleven sections of STATUS; their presence bytes and the sizes R189 leaves to classes are log 14, as is each byte that
serves as a flag and as a mark of presence (R48, R120, R158, R171) and the order of the four row-state counts (R141) and of
the two advisory terms (R32), the free places log 15, the discard count modulo 2^32 log
25, the seq of a report whose entry a RESET STREAM emptied log 30, the tile in transmission among those still to be sent
log 32, the held frame's number in TRIAL and TRIAL_WAIT log 34. -/
def Obligations.ReportsAndStatusFollowTheirLayouts : Prop :=
  -- fields, CRC and frame
  (∀ k v : Nat, (leBytes k v).length = k ∧ ∀ i, i < k → (leBytes k v).getD i 0 = BitVec.ofNat 8 (v / 256 ^ i))
  ∧ (∀ (k : Nat) (v : Int), leInt k v = leBytes k (v % (256 ^ k : Nat)).toNat)
  ∧ (crc [] = 0xFFFF#16
    ∧ (∀ (bytes : List Byte) (b : Byte),
      crc (bytes ++ [b]) =
        (fun r : BitVec 16 => if r.msb then (r <<< 1) ^^^ 0x1021#16 else r <<< 1)^[8]
          (crc bytes ^^^ (b.zeroExtend 16 <<< 8)))
    ∧ crc [0x31, 0x32, 0x33, 0x34, 0x35, 0x36, 0x37, 0x38, 0x39] = 0x29B1#16)
  ∧ (let message (kind tag : Byte) (payload : List Byte) : List Byte :=
      [0xA5, 0x5A, kind, tag] ++ leBytes 2 payload.length ++ payload
        ++ leBytes 2 (crc ([kind, tag] ++ leBytes 2 payload.length ++ payload)).toNat
    (∀ r, (Outgoing.reply r).bytes = message (BitVec.ofNat 8 r.code.code) r.tag r.payload)
    ∧ (∀ seq e, (Outgoing.wall seq (.row e)).bytes = message 0x40 0 (rowPayload seq e))
    ∧ (∀ seq g, (Outgoing.wall seq (.gap g)).bytes = message 0x41 0 (gapPayload seq g))
    ∧ (∀ m, (Outgoing.control (.summary m)).bytes = message 0x42 0 (summaryPayload m))
    ∧ (∀ e, (Outgoing.control (.event e)).bytes = message 0x43 0 (eventPayload e))
    ∧ (∀ m, (Outgoing.marker m).bytes = message 0x44 0 (markerPayload m))
    ∧ (∀ t, (Outgoing.tile t).bytes = message 0x45 0 (tilePayload t)))
  ∧ (∀ s : State, s.downlinkBytes = (s.lnk.tx.map Outgoing.bytes).getD [])
  -- codings
  ∧ ([ReplyCode.ok, .clamped, .bad, .state, .busy, .stale, .unknown].map ReplyCode.code
      = [0xF0, 0xF1, 0xF2, 0xF3, 0xF4, 0xF5, 0xF6]
    ∧ [Direction.forward, .reverse, .stopped].map Direction.code = [0, 1, 2]
    ∧ [Travel.forward, .reverse].map Travel.code = [0, 1]
    ∧ [RowKind.take, .retake, .trial].map RowKind.code = [1, 2, 3]
    ∧ [LoopState.dark, .seeking, .locked].map LoopState.code = [0, 1, 2]
    ∧ [Advisory.go, .slow, .hold].map Advisory.code = [0, 1, 2]
    ∧ [OpState.unconfigured, .idle, .calibrating, .streaming, .stopping].map OpState.code = [0, 1, 2, 3, 4]
    ∧ [FrameKind.stream, .dark, .calibration, .hold].map FrameKind.code = [0, 1, 2, 3]
    ∧ [Source.sensor, .pattern].map Source.code = [0, 1]
    ∧ [TableId.profile, .shade, .column].map TableId.code = [1, 2, 3]
    ∧ [PreviewKind.render, .trial].map PreviewKind.code = [0, 1]
    ∧ [false, true].map bit = [0, 1])
  -- the wall stream
  ∧ (∀ (seq : Nat) (e : RowEntry),
      rowPayload seq e =
        laidOut
          [(2, seq), (1, e.kind.code), (1, e.direction.code), (4, e.row), (4, e.frameNumber), (4, e.position), (4, e.s),
            (2, e.rollTotal), (2, e.cx), (2, e.cy), (2, e.profileGen), (2, e.shadeGen), (2, e.columnGen),
            (2, (bit e.flags.unsettled + 2 * bit e.flags.saturated + 4 * bit e.flags.late + 8 * bit e.flags.revisit
              + 16 * bit e.flags.rollStale + 32 * bit e.flags.centreHeld + 64 * bit e.flags.clipped : Nat)),
            (2, e.clipCount), (2, e.satCount), (2, e.w), (1, e.depth), (1, 0)]
          ++ packPixels e.depth e.pixels)
  ∧ (∀ pixels : List Nat,
      packPixels 8 pixels = pixels.map (BitVec.ofNat 8)
      ∧ (pixels.length % 2 = 0 →
        (packPixels 12 pixels).length = 3 * pixels.length / 2
        ∧ ∀ i, 2 * i < pixels.length →
          let first := pixels.getD (2 * i) 0
          let second := pixels.getD (2 * i + 1) 0
          ((packPixels 12 pixels).drop (3 * i)).take 3
            = [BitVec.ofNat 8 first, BitVec.ofNat 8 (first / 256 + 16 * (second % 16)), BitVec.ofNat 8 (second / 16)]))
  ∧ (∀ (seq : Nat) (g : GapEntry),
      gapPayload seq g =
        laidOut [(2, seq), (1, g.direction.code), (1, 0), (4, g.nFirst), (4, g.nLast), (4, g.frameNumber)])
  -- the control stream
  ∧ (∀ m : Summary,
      summaryPayload m =
        laidOut
          ([(4, (m.frameNumber : Int)), (4, m.position), (1, m.direction.code), (1, m.loopState.code), (1, m.advisory.code),
              (1, (bit m.centreHeld + 2 * bit m.rollStale + 4 * bit m.meterRow : Nat)), (4, m.advance), (2, m.counts.taken),
              (2, m.counts.retaken), (2, m.counts.rejected), (2, m.counts.late), (2, m.counts.revisit),
              (2, m.counts.skips), (4, m.counts.gapRows)]
            ++ m.drives.map (fun d : Nat => (2, (d : Int))) ++ m.trims.map (fun t : Nat => (2, (t : Int)))
            ++ m.posts.map (fun p : Option Nat => (4, match p with | some v => (v : Int) | none => 0xFFFFFFFF))
            ++ [(2, m.ox), (2, m.oy), (2, m.roll), (2, m.profileGen), (2, m.shadeGen), (2, m.columnGen), (2, m.speed),
              (2, 0)]))
  ∧ (∀ e : Event,
      eventPayload e = laidOut (
        match e with
        | .frameSlip slips cause frameCounter =>
          [(1, 1), (1, 0), (4, slips), (1, if cause = .sensorBusy then 0 else 1), (4, frameCounter)]
        | .calDone gen width height least greatest saturated =>
          [(1, 2), (1, 0), (2, gen), (2, width), (2, height), (2, least), (2, greatest), (4, saturated)]
        | .calAborted cause frames => [(1, 3), (1, 0), (1, if cause = .stop then 0 else 1), (4, frames)]
        | .heldReady frameNumber => [(1, 4), (1, 0), (4, frameNumber)]
        | .trialDone frameNumber stored profileGen shadeGen =>
          [(1, 5), (1, 0), (4, frameNumber), (4, stored), (2, profileGen), (2, shadeGen)]
        | .commitApplied table gen .atOnce => [(1, 6), (1, 0), (1, table.code), (2, gen), (1, 0), (4, 0)]
        | .commitApplied table gen (.renderStart f) => [(1, 6), (1, 0), (1, table.code), (2, gen), (1, 1), (4, f)]
        | .commitApplied table gen (.exposureStart f) => [(1, 6), (1, 0), (1, table.code), (2, gen), (1, 2), (4, f)]
        | .commitCancelled table expected found => [(1, 7), (1, 0), (1, table.code), (2, expected), (2, found)]
        | .phaseError pending running => [(1, 8), (1, 0), (4, pending), (4, running)]
        | .gapLost nFirst nLast frameNumber direction lostRows =>
          [(1, 9), (1, 0), (4, nFirst), (4, nLast), (4, frameNumber), (1, direction.code), (4, lostRows)]
        | .stopped discards lastFrame holdDropped =>
          [(1, 10), (1, 0), (4, discards), (4, lastFrame), (1, bit holdDropped)]))
  ∧ (∀ m : Marker, m.code.length ≤ 8 →
      markerPayload m =
        laidOut [(1, m.code.length)] ++ m.code ++ List.replicate (8 - m.code.length) 0
          ++ laidOut [(4, m.x), (4, m.frameCounter), (1, bit m.row.isSome), (4, m.row.getD 0)])
  -- the preview stream and the crawler port
  ∧ (∀ t : Tile,
      tilePayload t =
        laidOut [(4, t.frameNumber), (4, t.position), (1, t.kind.code), (1, 0), (2, t.wp), (2, t.hp), (1, t.tile),
          (1, t.tiles), (2, (8 * t.tile : Nat)), (1, t.lines.length), (1, 0)]
          ++ t.lines.flatMap (fun line => line.map (BitVec.ofNat 8)))
  ∧ (∀ s : State,
      s.portBytes =
        match s.odo.portTx with
        | none => []
        | some (.response text) => text ++ [0x0D, 0x0A]
        | some (.advisory .go) => [0x56, 0x20, 0x47, 0x0D, 0x0A]
        | some (.advisory .slow) => [0x56, 0x20, 0x53, 0x0D, 0x0A]
        | some (.advisory .hold) => [0x56, 0x20, 0x48, 0x0D, 0x0A])
  -- STATUS, section by section
  ∧ (∀ f : Fsq,
      let recordFields (r : ExposureRecord) : List (Nat × Int) :=
        [(4, (r.frameNumber : Int)), (1, r.kind.code), (2, r.width), (2, r.height), (1, r.source.code), (2, r.exposure)]
          ++ r.drives.map (fun d : Nat => (2, (d : Int))) ++ [(2, (r.roll : Int)), (1, bit r.rollStale), (2, r.columnGen)]
      let bufferFields (b : Buffer) : List (Nat × Int) :=
        match b with
        | .free => [(1, 0), (1, 0), (4, 0), (1, 0), (1, 0)]
        | .exposing r _ => [(1, 1), (1, 1), (4, r.frameNumber), (1, 1), (1, r.kind.code)]
        | .ready g => [(1, 2), (1, 1), (4, g.record.frameNumber), (1, 1), (1, g.record.kind.code)]
        | .rendering g => [(1, 3), (1, 1), (4, g.record.frameNumber), (1, 1), (1, g.record.kind.code)]
        | .held g => [(1, 4), (1, 1), (4, g.record.frameNumber), (1, 1), (1, g.record.kind.code)]
      fsqStatus f = laidOut
        ([(1, (f.opState.code : Int)), (1, bit f.sensorHeld), (2, f.sensor.width), (2, f.sensor.height), (2, f.sensor.period),
            (2, f.sensor.exposure), (1, f.sensor.source.code)]
          ++ bufferFields f.buffers.b0 ++ bufferFields f.buffers.b1 ++ bufferFields f.buffers.b2 ++ [(1, (bit f.holdMark : Int))]
          ++ (match f.buffers.heldFrame with
            | some (_, g) => (1, 1) :: (recordFields g.record ++ [(1, (1 : Int)), (4, g.position)])
            | none =>
              (1, 0) :: ([4, 1, 2, 2, 1, 2, 2, 2, 2, 2, 2, 2, 2, 2, 2, 1, 2, 1, 4].map (fun size => (size, 0))))
          ++ [(4, (f.slipCount : Int)), (4, f.discardCount)]))
  ∧ (∀ s : Strip,
      stripStatus s = laidOut
        [(1, bit s.held), (2, s.record.w), (2, s.record.b0), (2, s.record.b1), (1, s.record.p), (1, s.record.depth),
          (4, s.record.z0), (2, s.record.mount), (2, s.record.fill)])
  ∧ (∀ (b : Blk) (nDark : Nat),
      blkStatus b nDark = laidOut
        [(2, b.drift), (1, bit b.calValid), (4, b.calFrames), (4, b.calSaturated), (2, nDark), (4, b.darkMeasured),
          (2, b.lastDark)])
  ∧ (∀ o : Odo,
      odoStatus o = laidOut
        [(4, o.x), (4, o.phaseRunning), (2, o.speed), (1, o.odometer.sign), (1, 0), (2, o.odometer.step),
          (4, o.odometer.zm), (2, o.roll), (1, bit o.rollReceived), (2, (min o.rollAge 65535 : Nat)), (1, bit o.up.isSome),
          (1, bit o.down.isSome), (4, o.malformed), (4, o.overrun), (1, o.level.code), (1, o.coverageTerm.code),
          (1, o.storeTerm.code), (2, o.advisory.tResume), (2, o.advisory.tSlow), (2, o.advisory.tHold)])
  ∧ (∀ b : Bcf,
      bcfStatus b = laidOut
        ([(2, b.centre.cx), (2, b.centre.cy), (1, bit b.centre.follow), (1, 0), (2, b.centre.threshold),
            (2, b.centre.mincount), (2, b.centre.maxoff), (2, b.ox), (2, b.oy)]
          ++ match b.lastScan with
            | .none => [(1, 0), (1, 0), (4, 0), (1, 0), (4, 0), (1, 0), (2, 0), (2, 0)]
            | .off f => [(1, 1), (1, 1), (4, f), (1, 0), (4, 0), (1, 0), (2, 0), (2, 0)]
            | .updated f count mx my => [(1, 2), (1, 1), (4, f), (1, 1), (4, count), (1, 1), (2, mx), (2, my)]
            | .held f count => [(1, 3), (1, 1), (4, f), (1, 1), (4, count), (1, 0), (2, 0), (2, 0)]))
  ∧ (∀ g : Geo,
      geoStatus g = laidOut (
        match g with
        | .idle => [(1, 0), (1, 0), (4, 0), (1, 0), (4, 0), (1, 0), (4, 0)]
        | .render w => [(1, 1), (1, 1), (4, w.context.frameNumber), (1, 1), (4, w.rows.length), (1, 1), (4, w.done)]
        | .trial w => [(1, 2), (1, 1), (4, w.context.frameNumber), (1, 1), (4, w.rows.length), (1, 1), (4, w.done)]
        | .trialWait w _ =>
          [(1, 3), (1, 1), (4, w.context.frameNumber), (1, 1), (4, w.rows.length), (1, 1), (4, (w.done + 1 : Nat))]))
  ∧ (∀ i : Ilc,
      let sectorFields (u : SectorUpdate) : List (Nat × Int) :=
        [(4, (u.count : Int)), (4, u.saturated)] ++ presenceFields 4 (u.mean.map Int.ofNat)
          ++ presenceFields 4 (u.post.map Int.ofNat) ++ [(1, (bit u.settled : Int)), (1, bit u.pinnedHigh), (1, bit u.capped)]
      ilcStatus i = laidOut
        ([(1, (i.loop.code : Int)), (4, i.clean), (4, i.unsettled), (4, i.stale)] ++ i.drives.map (fun d : Nat => (2, (d : Int)))
          ++ [(2, ((i.drives.sum : Nat) : Int))] ++ i.trims.map (fun t : Nat => (2, (t : Int)))
          ++ [(2, (i.light.t : Int)), (2, i.light.tol), (2, i.light.cap), (2, i.light.start)]
          ++ match i.lastUpdate with
            | some u => [(1, 1), (4, (u.frameNumber : Int))] ++ u.sectors.flatMap sectorFields
            | none =>
              [(1, (0 : Int)), (4, 0)]
                ++ (List.replicate 8 (⟨0, 0, none, none, false, false, false⟩ : SectorUpdate)).flatMap sectorFields))
  ∧ (∀ c : Cvt,
      let spanFields (r : Option (Int × Int)) : List (Nat × Int) :=
        match r with
        | some (lo, hi) => [(1, 1), (4, lo), (4, hi)]
        | none => [(1, 0), (4, 0), (4, 0)]
      let rowsIn (st : RowState) : Nat := c.ring.countP (fun e => e.state == st)
      cvtStatus c = laidOut
        ([(4, (c.wb : Int))] ++ spanFields c.span ++ spanFields c.ever ++ presenceFields 4 c.xprev
          ++ [(1, (c.prevDir.code : Int)), (4, (rowsIn .unseen : Int)), (4, rowsIn .soft), (4, rowsIn .firm), (4, rowsIn .gap),
            (4, c.ring.countP (·.revisit)), (4, c.takeList.length)]))
  ∧ (∀ (r : Rws) (tx : Option Outgoing),
      let rows := r.entries.countP (fun e => match e with | .row _ => true | .gap _ => false)
      rwsStatus r tx = laidOut
        ([(4, (r.entries.length : Int)), (4, rows), (4, (r.entries.length - rows : Nat))]
          ++ (match tx with
            | some (.wall seq _) => [(1, 1), (2, (seq : Int))]
            | _ => [(1, (0 : Int)), (2, 0)])
          ++ [(2, (r.seq : Int)), (4, r.lostGapRows), (2, r.nPrev), (4, r.previewCounter), (4, r.skipCount)]
          ++ match r.preview with
            | some p => [(1, 1), (4, (p.frameNumber : Int)), (4, ((p.hp + 7) / 8 - p.nextTile : Nat))]
            | none => [(1, (0 : Int)), (4, 0), (4, 0)]))
  ∧ (∀ t : Tbu,
      let tableFields (u : TableState) : List (Nat × Int) := (2, (u.gen : Int)) :: presenceFields 2 (u.armed.map Int.ofNat)
      tbuStatus t = laidOut
        (tableFields t.profile ++ tableFields t.shade ++ tableFields t.column ++ [(1, (bit t.parked.isSome : Int))]))
  ∧ (∀ s : State,
      lnkStatus s = laidOut
        [(4, s.lnk.accepted), (4, s.lnk.crcFaults), (4, s.lnk.lengthFaults), (4, s.lnk.silences), (4, s.lnk.overflows),
          (4, s.lnk.summariesDropped), (4, s.lnk.eventsDropped), (4, (8 - (placesUsed s + 1) : Nat)),
          (4, s.lnk.cmdQueue.length), (4, s.lnk.replies.countP (·.refusal)), (4, s.lnk.controlQueue.length)])

/-! ## Odometer and crawler port -/

/-- R15, R16: the quadrature decoder. -/
def Obligations.QuadratureMovesPosition : Prop :=
  ∀ (a b : Bool) (s : State),
    let forward := (s.odo.refA, s.odo.refB, a, b) ∈
      [(false, false, true, false), (true, false, true, true), (true, true, false, true), (false, true, false, false)]
    let lines : Odo := { s.odo with lineA := a, lineB := b, refA := a, refB := b }
    let movedBy (d : Int) : Odo :=
      let x := clampInt (s.odo.x + d) (-(2 ^ 30)) (2 ^ 30 - 1)
      { lines with x := x, windowSum := s.odo.windowSum + (x - s.odo.x) }
    exec (.quadratureTransition a b) s = .next (settle
      { s with
        odo :=
          if s.odo.odometer.step ≠ 0 then { s.odo with lineA := a, lineB := b }
          else if a = s.odo.refA ∧ b = s.odo.refB then lines
          else if a ≠ s.odo.refA ∧ b ≠ s.odo.refB then
            { lines with
              phaseRunning := min (s.odo.phaseRunning + 1) 65535
              phasePending := min (s.odo.phasePending + 1) 65535 }
          else if forward then movedBy s.odo.odometer.sign
          else movedBy (-s.odo.odometer.sign) })

/-- On an empty queue a step is a millisecond of the roll's age and nothing else: the model's choice, log 2. R21, R32:
the end of a speed window, and of the 500 ms after an advisory line was started. R23: what the port's transmitter
starts when a line has gone out; a response leaves the response queue when its transmission starts: log 16; an end with no
line in transmission changes nothing: log 4. -/
def Obligations.ClocksAndPortLines : Prop :=
  (∀ s : State, s.pending = [] → step s = .next { s with odo := { s.odo with rollAge := s.odo.rollAge + 1 } })
  ∧ (∀ s : State,
      exec .speedWindowExpiry s = .next (settle
        { s with odo := { s.odo with speed := clampInt s.odo.windowSum (-32768) 32767, windowSum := 0 } })
      ∧ exec .advisoryRepeatExpiry s = .next (settle { s with odo := { s.odo with advisoryDue := true } }))
  ∧ (∀ (s : State) (line : PortLine), s.odo.portTx = some line →
      let advisory : Odo := { s.odo with portTx := some (.advisory s.odo.level), advisoryDue := false }
      let response : Odo :=
        match s.odo.responses with
        | r :: rest => { s.odo with portTx := some (.response r), responses := rest }
        | [] => { s.odo with portTx := none }
      exec .portLineTransmitted s = .next (settle
        { s with
          odo :=
            match line with
            | .response _ => if s.odo.advisoryDue = true then advisory else response
            | .advisory _ => if s.odo.advisoryDue = true ∧ s.odo.responses = [] then advisory else response }))
  ∧ ∀ s : State, s.odo.portTx = none → exec .portLineTransmitted s = .next (settle s)

/-- R24, R26, R29, R23: the well-formed lines, at the start of a line. R22, 2.5: which lines are a roll line, a marker line or
the query, exactly; every other line is malformed. R22: a malformed line is counted and has no other effect, and what makes
a line malformed; the tail of a line cut off by a reset is malformed whatever it spells. How the characters of a line that has
not ended are gathered, and the mark of a cut-off line: log 27; a 0x0A with a framing error is a character of the line: log
31. -/
def Obligations.CrawlerLinesAreTakenOrCounted : Prop :=
  (∀ s : State, s.odo.lineBuf = [] → s.odo.lineCut = false →
      let full := 4 ≤ s.odo.responses.length
      let overrun : Odo := { s.odo with overrun := min (s.odo.overrun + 1) 65535 }
      let queue (o : Odo) (line : List Byte) : Odo := { o with responses := o.responses ++ [line] }
      (∀ digits v, rollForm digits = .roll v →
        exec (.rollLine digits) s = .next (settle
          { s with odo := { s.odo with roll := v, rollAge := 0, rollReceived := true } }))
      ∧ (∀ code, markerForm code = .marker code →
        exec (.markerLine code) s = .next (settle
          { s with
            odo :=
              if full then overrun
              else if s.odo.up.isSome then queue s.odo [0x42]
              else
                queue { s.odo with
                  up := some
                    { code := code, x := s.odo.x, frameCounter := s.fsq.frameCounter
                      row :=
                        if s.strip.held then some ((s.odo.x + s.odo.odometer.zm) / s.strip.record.p) else none } }
                  [0x4B] }))
      ∧ exec .qLine s = .next (settle
          { s with
            odo :=
              if full then overrun
              else
                match s.odo.down with
                | some text => queue { s.odo with down := none } (0x4E :: 0x20 :: text)
                | none => queue s.odo [0x4E] }))
  ∧ ((∀ (chars : List LineChar) (s : State),
      s.odo.lineBuf = [] → s.odo.lineCut = false → classifyLine chars = .malformed →
      exec (.malformedLine ⟨chars, true⟩) s = .next (settle
        { s with odo := { s.odo with malformed := min (s.odo.malformed + 1) 65535 } }))
    ∧ ∀ (body : List LineChar) (last : LineChar),
      (last.byte ≠ 0x0D ∨ last.framingError = true
        ∨ (∃ c ∈ body, c.framingError = true ∨ c.byte.toNat < 0x20 ∨ 0x7E < c.byte.toNat)
        ∨ 40 < body.length) →
      classifyLine (body ++ [last]) = .malformed ∧ classifyLine [] = .malformed)
  ∧ (let clean (text : List Byte) : List LineChar := (text ++ [0x0D]).map (fun b => ⟨b, false⟩)
    (∀ digits v, rollForm digits = .roll v ↔
      1 ≤ digits.length ∧ digits.length ≤ 4 ∧ (∀ d ∈ digits, 0x30 ≤ d.toNat ∧ d.toNat ≤ 0x39)
        ∧ v = digits.foldl (fun n d => 10 * n + (d.toNat - 0x30)) 0 ∧ v ≤ 4095)
    ∧ (∀ code code', markerForm code = .marker code' ↔
      code' = code ∧ 1 ≤ code.length ∧ code.length ≤ 8 ∧ ∀ c ∈ code, 0x21 ≤ c.toNat ∧ c.toNat ≤ 0x7E)
    ∧ (∀ chars v, classifyLine chars = .roll v ↔ ∃ digits, chars = clean (0x41 :: 0x20 :: digits) ∧ rollForm digits = .roll v)
    ∧ (∀ chars code, classifyLine chars = .marker code ↔
      chars = clean (0x4D :: 0x20 :: code) ∧ markerForm code = .marker code)
    ∧ (∀ chars, classifyLine chars = .query ↔ chars = clean [0x51])
    ∧ ∀ chars, classifyLine chars = .malformed ∨ (∃ v, classifyLine chars = .roll v)
        ∨ (∃ code, classifyLine chars = .marker code) ∨ classifyLine chars = .query)
  ∧ (∀ s : State, s.odo.lineCut = true →
      let counted : State :=
        { s with
          odo := { s.odo with malformed := min (s.odo.malformed + 1) 65535, lineBuf := [], lineCut := false } }
      (∀ chars, exec (.malformedLine ⟨chars, true⟩) s = .next (settle counted))
      ∧ (∀ digits, exec (.rollLine digits) s = .next (settle counted))
      ∧ (∀ code, exec (.markerLine code) s = .next (settle counted))
      ∧ exec .qLine s = .next (settle counted))
  ∧ (∀ (first chars : List LineChar) (s : State),
      exec (.malformedLine ⟨chars, false⟩) s =
        .next (settle { s with odo := { s.odo with lineBuf := (s.odo.lineBuf ++ chars).take 42 } })
      ∧ (s.odo.lineBuf = [] →
        exec (.malformedLine ⟨chars, true⟩) { s with odo := { s.odo with lineBuf := first.take 42 } }
          = exec (.malformedLine ⟨first ++ chars, true⟩) s))

/-! ## Invariants -/

/-- Every invariant below holds at power-on reset. -/
def Obligations.ResetMeetsEveryInvariant : Prop :=
  ∀ (lineA lineB lineCut : Bool) (freeIx : Nat) (pending : List Instr),
    let s := State.powerOn lineA lineB lineCut freeIx pending
    Settled s ∧ StoreWithinLimits s ∧ QueuesWithinLimits s ∧ MeasuresWithinBounds s ∧ StripWithinRange s
    ∧ TablesWellFormed s ∧ PowerWithinCap s ∧ LightWithinRange s ∧ StateCoherent s ∧ BuffersCoherent s
    ∧ CommitsDoNotLinger s ∧ CoverageCoherent s ∧ TakesAccounted s

/-- R184, R23: after every step, nothing is on offer to a transmitter that is idle. -/
def Obligations.EveryStepLeavesThePartSettled : Prop :=
  ∀ (c : Instr) (s t : State), exec c s = .next t → Settled t

/-- R142: every step keeps the limits of the row store. R23, R176, R177, R185: every step keeps the sizes of the
queues, and no command waits while a reply place is free. -/
def Obligations.EveryStepKeepsTheStoreAndQueueLimits : Prop :=
  (∀ s t : State, StoreWithinLimits s → step s = .next t → StoreWithinLimits t)
  ∧ (∀ s t : State, QueuesWithinLimits s → step s = .next t → QueuesWithinLimits t)

/-- R15, R17, R21, R24, R59: every step keeps X, the drift, the speed estimate, the roll and the ODOMETER record
within their bounds. R6, R159, R160: every step keeps the STRIP record in its ranges, and the tables at their sizes
and in their ranges. R101, R102, R107, R116: every step keeps eight drives, eight trims and the LIGHT record in their
ranges. -/
def Obligations.EveryStepKeepsRecordsAndMeasuresBounded : Prop :=
  (∀ s t : State, MeasuresWithinBounds s → step s = .next t → MeasuresWithinBounds t)
  ∧ (∀ s t : State, StripWithinRange s → TablesWellFormed s → step s = .next t → StripWithinRange t ∧ TablesWellFormed t)
  ∧ (∀ s t : State, LightWithinRange s → step s = .next t → LightWithinRange t)

/-- R114, R45, R109: every step keeps the drives, and what lights the ring, within the power cap in force. -/
def Obligations.EveryStepKeepsThePowerCap : Prop :=
  ∀ s t : State, PowerWithinCap s → step s = .next t → PowerWithinCap t

/-- R34, R32, R37, R41, R104: every step keeps the operating state and what follows it in agreement. -/
def Obligations.EveryStepKeepsTheStateCoherent : Prop :=
  ∀ s t : State, StateCoherent s → BuffersCoherent s → step s = .next t → StateCoherent t

/-- R48, R49, R51, R52, R68: every step keeps the three buffers, the hold mark and GEO in agreement. -/
def Obligations.EveryStepKeepsTheBuffersCoherent : Prop :=
  ∀ s t : State, StripWithinRange s → StateCoherent s → BuffersCoherent s → step s = .next t → BuffersCoherent t

/-- R165, R166, R167, R169: every step keeps the armed commits and the parked SYNC from lingering. -/
def Obligations.EveryStepKeepsCommitsFromLingering : Prop :=
  ∀ s t : State, BuffersCoherent s → CommitsDoNotLinger s → step s = .next t → CommitsDoNotLinger t

/-- R122, R128: every step keeps the explored span inside the coverage window. -/
def Obligations.EveryStepKeepsTheSpanInTheWindow : Prop :=
  ∀ s t : State, StripWithinRange s → CoverageCoherent s → step s = .next t → CoverageCoherent t

/-- R131, R137: every step keeps the rows of the render in flight accounted for. -/
def Obligations.EveryStepKeepsTheTakesAccounted : Prop :=
  ∀ s t : State, BuffersCoherent s → TakesAccounted s → step s = .next t → TakesAccounted t
end

