-- ==== Sys2Proof/Laws/State.lean ====
section
/-! SUPPORT. One lemma per field per named update of the state: what the update leaves is read off without unfolding it. -/

namespace Sys2Proof.Machine

/-! A reply put into its place changes the link alone. -/

@[simp] theorem putReply_fsq (r : Reply) (s : State) : (putReply r s).fsq = s.fsq := rfl
@[simp] theorem putReply_blk (r : Reply) (s : State) : (putReply r s).blk = s.blk := rfl
@[simp] theorem putReply_odo (r : Reply) (s : State) : (putReply r s).odo = s.odo := rfl
@[simp] theorem putReply_strip (r : Reply) (s : State) : (putReply r s).strip = s.strip := rfl
@[simp] theorem putReply_bcf (r : Reply) (s : State) : (putReply r s).bcf = s.bcf := rfl
@[simp] theorem putReply_geo (r : Reply) (s : State) : (putReply r s).geo = s.geo := rfl
@[simp] theorem putReply_ilc (r : Reply) (s : State) : (putReply r s).ilc = s.ilc := rfl
@[simp] theorem putReply_cvt (r : Reply) (s : State) : (putReply r s).cvt = s.cvt := rfl
@[simp] theorem putReply_rws (r : Reply) (s : State) : (putReply r s).rws = s.rws := rfl
@[simp] theorem putReply_tbu (r : Reply) (s : State) : (putReply r s).tbu = s.tbu := rfl
@[simp] theorem putReply_freeIx (r : Reply) (s : State) : (putReply r s).freeIx = s.freeIx := rfl
@[simp] theorem putReply_pending (r : Reply) (s : State) : (putReply r s).pending = s.pending := rfl

@[simp] theorem putReply_lnk (r : Reply) (s : State) : (putReply r s).lnk = s.lnk.putReply r := rfl
@[simp] theorem Lnk.putReply_rx (l : Lnk) (r : Reply) : (l.putReply r).rx = l.rx := rfl
@[simp] theorem Lnk.putReply_cmdQueue (l : Lnk) (r : Reply) : (l.putReply r).cmdQueue = l.cmdQueue := rfl
@[simp] theorem Lnk.putReply_controlQueue (l : Lnk) (r : Reply) : (l.putReply r).controlQueue = l.controlQueue := rfl
@[simp] theorem Lnk.putReply_pointer (l : Lnk) (r : Reply) : (l.putReply r).pointer = l.pointer := rfl
@[simp] theorem Lnk.putReply_tx (l : Lnk) (r : Reply) : (l.putReply r).tx = l.tx := rfl
@[simp] theorem Lnk.putReply_accepted (l : Lnk) (r : Reply) : (l.putReply r).accepted = l.accepted := rfl
@[simp] theorem Lnk.putReply_crcFaults (l : Lnk) (r : Reply) : (l.putReply r).crcFaults = l.crcFaults := rfl
@[simp] theorem Lnk.putReply_lengthFaults (l : Lnk) (r : Reply) : (l.putReply r).lengthFaults = l.lengthFaults := rfl
@[simp] theorem Lnk.putReply_silences (l : Lnk) (r : Reply) : (l.putReply r).silences = l.silences := rfl
@[simp] theorem Lnk.putReply_overflows (l : Lnk) (r : Reply) : (l.putReply r).overflows = l.overflows := rfl
@[simp] theorem Lnk.putReply_summariesDropped (l : Lnk) (r : Reply) : (l.putReply r).summariesDropped = l.summariesDropped := rfl
@[simp] theorem Lnk.putReply_eventsDropped (l : Lnk) (r : Reply) : (l.putReply r).eventsDropped = l.eventsDropped := rfl
@[simp] theorem Lnk.putReply_replies (l : Lnk) (r : Reply) : (l.putReply r).replies = l.replies ++ [r] := rfl

/-! An item raised changes the link alone. -/

@[simp] theorem raise_fsq (i : ControlItem) (s : State) : (raise i s).fsq = s.fsq := rfl
@[simp] theorem raise_blk (i : ControlItem) (s : State) : (raise i s).blk = s.blk := rfl
@[simp] theorem raise_odo (i : ControlItem) (s : State) : (raise i s).odo = s.odo := rfl
@[simp] theorem raise_strip (i : ControlItem) (s : State) : (raise i s).strip = s.strip := rfl
@[simp] theorem raise_bcf (i : ControlItem) (s : State) : (raise i s).bcf = s.bcf := rfl
@[simp] theorem raise_geo (i : ControlItem) (s : State) : (raise i s).geo = s.geo := rfl
@[simp] theorem raise_ilc (i : ControlItem) (s : State) : (raise i s).ilc = s.ilc := rfl
@[simp] theorem raise_cvt (i : ControlItem) (s : State) : (raise i s).cvt = s.cvt := rfl
@[simp] theorem raise_rws (i : ControlItem) (s : State) : (raise i s).rws = s.rws := rfl
@[simp] theorem raise_tbu (i : ControlItem) (s : State) : (raise i s).tbu = s.tbu := rfl
@[simp] theorem raise_freeIx (i : ControlItem) (s : State) : (raise i s).freeIx = s.freeIx := rfl
@[simp] theorem raise_pending (i : ControlItem) (s : State) : (raise i s).pending = s.pending := rfl

@[simp] theorem raise_lnk (i : ControlItem) (s : State) : (raise i s).lnk = s.lnk.raise i := rfl

/-! An event raised changes the link alone. -/

@[simp] theorem raiseEvent_fsq (e : Event) (s : State) : (raiseEvent e s).fsq = s.fsq := rfl
@[simp] theorem raiseEvent_blk (e : Event) (s : State) : (raiseEvent e s).blk = s.blk := rfl
@[simp] theorem raiseEvent_odo (e : Event) (s : State) : (raiseEvent e s).odo = s.odo := rfl
@[simp] theorem raiseEvent_strip (e : Event) (s : State) : (raiseEvent e s).strip = s.strip := rfl
@[simp] theorem raiseEvent_bcf (e : Event) (s : State) : (raiseEvent e s).bcf = s.bcf := rfl
@[simp] theorem raiseEvent_geo (e : Event) (s : State) : (raiseEvent e s).geo = s.geo := rfl
@[simp] theorem raiseEvent_ilc (e : Event) (s : State) : (raiseEvent e s).ilc = s.ilc := rfl
@[simp] theorem raiseEvent_cvt (e : Event) (s : State) : (raiseEvent e s).cvt = s.cvt := rfl
@[simp] theorem raiseEvent_rws (e : Event) (s : State) : (raiseEvent e s).rws = s.rws := rfl
@[simp] theorem raiseEvent_tbu (e : Event) (s : State) : (raiseEvent e s).tbu = s.tbu := rfl
@[simp] theorem raiseEvent_freeIx (e : Event) (s : State) : (raiseEvent e s).freeIx = s.freeIx := rfl
@[simp] theorem raiseEvent_pending (e : Event) (s : State) : (raiseEvent e s).pending = s.pending := rfl

@[simp] theorem raiseEvent_lnk (e : Event) (s : State) : (raiseEvent e s).lnk = s.lnk.raise (.event e) := rfl

/-! The level re-formed changes ODO alone. -/

@[simp] theorem reformLevel_fsq (s : State) : (reformLevel s).fsq = s.fsq := rfl
@[simp] theorem reformLevel_blk (s : State) : (reformLevel s).blk = s.blk := rfl
@[simp] theorem reformLevel_strip (s : State) : (reformLevel s).strip = s.strip := rfl
@[simp] theorem reformLevel_bcf (s : State) : (reformLevel s).bcf = s.bcf := rfl
@[simp] theorem reformLevel_geo (s : State) : (reformLevel s).geo = s.geo := rfl
@[simp] theorem reformLevel_ilc (s : State) : (reformLevel s).ilc = s.ilc := rfl
@[simp] theorem reformLevel_cvt (s : State) : (reformLevel s).cvt = s.cvt := rfl
@[simp] theorem reformLevel_rws (s : State) : (reformLevel s).rws = s.rws := rfl
@[simp] theorem reformLevel_tbu (s : State) : (reformLevel s).tbu = s.tbu := rfl
@[simp] theorem reformLevel_lnk (s : State) : (reformLevel s).lnk = s.lnk := rfl
@[simp] theorem reformLevel_freeIx (s : State) : (reformLevel s).freeIx = s.freeIx := rfl
@[simp] theorem reformLevel_pending (s : State) : (reformLevel s).pending = s.pending := rfl

@[simp] theorem reformLevel_odo (s : State) : (reformLevel s).odo = s.odo.reformLevel s.fsq.opState := rfl

/-! A change of the fill reaches ODO alone. -/

@[simp] theorem fillChanged_fsq (s : State) : (fillChanged s).fsq = s.fsq := rfl
@[simp] theorem fillChanged_blk (s : State) : (fillChanged s).blk = s.blk := rfl
@[simp] theorem fillChanged_strip (s : State) : (fillChanged s).strip = s.strip := rfl
@[simp] theorem fillChanged_bcf (s : State) : (fillChanged s).bcf = s.bcf := rfl
@[simp] theorem fillChanged_geo (s : State) : (fillChanged s).geo = s.geo := rfl
@[simp] theorem fillChanged_ilc (s : State) : (fillChanged s).ilc = s.ilc := rfl
@[simp] theorem fillChanged_cvt (s : State) : (fillChanged s).cvt = s.cvt := rfl
@[simp] theorem fillChanged_rws (s : State) : (fillChanged s).rws = s.rws := rfl
@[simp] theorem fillChanged_tbu (s : State) : (fillChanged s).tbu = s.tbu := rfl
@[simp] theorem fillChanged_lnk (s : State) : (fillChanged s).lnk = s.lnk := rfl
@[simp] theorem fillChanged_freeIx (s : State) : (fillChanged s).freeIx = s.freeIx := rfl
@[simp] theorem fillChanged_pending (s : State) : (fillChanged s).pending = s.pending := rfl

@[simp] theorem fillChanged_odo (s : State) : (fillChanged s).odo = s.odo.fillChanged s.rws.fill s.fsq.opState := rfl

/-! An entry stored changes the store, and ODO. -/

@[simp] theorem storeEntry_fsq (e : Entry) (s : State) : (storeEntry e s).fsq = s.fsq := rfl
@[simp] theorem storeEntry_blk (e : Entry) (s : State) : (storeEntry e s).blk = s.blk := rfl
@[simp] theorem storeEntry_strip (e : Entry) (s : State) : (storeEntry e s).strip = s.strip := rfl
@[simp] theorem storeEntry_bcf (e : Entry) (s : State) : (storeEntry e s).bcf = s.bcf := rfl
@[simp] theorem storeEntry_geo (e : Entry) (s : State) : (storeEntry e s).geo = s.geo := rfl
@[simp] theorem storeEntry_ilc (e : Entry) (s : State) : (storeEntry e s).ilc = s.ilc := rfl
@[simp] theorem storeEntry_cvt (e : Entry) (s : State) : (storeEntry e s).cvt = s.cvt := rfl
@[simp] theorem storeEntry_tbu (e : Entry) (s : State) : (storeEntry e s).tbu = s.tbu := rfl
@[simp] theorem storeEntry_lnk (e : Entry) (s : State) : (storeEntry e s).lnk = s.lnk := rfl
@[simp] theorem storeEntry_freeIx (e : Entry) (s : State) : (storeEntry e s).freeIx = s.freeIx := rfl
@[simp] theorem storeEntry_pending (e : Entry) (s : State) : (storeEntry e s).pending = s.pending := rfl

@[simp] theorem storeEntry_rws (e : Entry) (s : State) : (storeEntry e s).rws = s.rws.push e := rfl
@[simp] theorem storeEntry_odo (e : Entry) (s : State) :
    (storeEntry e s).odo = s.odo.fillChanged (s.rws.push e).fill s.fsq.opState := rfl

/-! The receiver moves. -/

@[simp] theorem setRx_fsq (rx : RxState) (s : State) : (setRx rx s).fsq = s.fsq := rfl
@[simp] theorem setRx_blk (rx : RxState) (s : State) : (setRx rx s).blk = s.blk := rfl
@[simp] theorem setRx_odo (rx : RxState) (s : State) : (setRx rx s).odo = s.odo := rfl
@[simp] theorem setRx_strip (rx : RxState) (s : State) : (setRx rx s).strip = s.strip := rfl
@[simp] theorem setRx_bcf (rx : RxState) (s : State) : (setRx rx s).bcf = s.bcf := rfl
@[simp] theorem setRx_geo (rx : RxState) (s : State) : (setRx rx s).geo = s.geo := rfl
@[simp] theorem setRx_ilc (rx : RxState) (s : State) : (setRx rx s).ilc = s.ilc := rfl
@[simp] theorem setRx_cvt (rx : RxState) (s : State) : (setRx rx s).cvt = s.cvt := rfl
@[simp] theorem setRx_rws (rx : RxState) (s : State) : (setRx rx s).rws = s.rws := rfl
@[simp] theorem setRx_tbu (rx : RxState) (s : State) : (setRx rx s).tbu = s.tbu := rfl
@[simp] theorem setRx_freeIx (rx : RxState) (s : State) : (setRx rx s).freeIx = s.freeIx := rfl
@[simp] theorem setRx_pending (rx : RxState) (s : State) : (setRx rx s).pending = s.pending := rfl

@[simp] theorem setRx_lnk (rx : RxState) (s : State) : (setRx rx s).lnk = { s.lnk with rx := rx } := rfl

/-! The downlink is free. -/

@[simp] theorem freeDownlink_fsq (s : State) : (freeDownlink s).fsq = s.fsq := rfl
@[simp] theorem freeDownlink_blk (s : State) : (freeDownlink s).blk = s.blk := rfl
@[simp] theorem freeDownlink_odo (s : State) : (freeDownlink s).odo = s.odo := rfl
@[simp] theorem freeDownlink_strip (s : State) : (freeDownlink s).strip = s.strip := rfl
@[simp] theorem freeDownlink_bcf (s : State) : (freeDownlink s).bcf = s.bcf := rfl
@[simp] theorem freeDownlink_geo (s : State) : (freeDownlink s).geo = s.geo := rfl
@[simp] theorem freeDownlink_ilc (s : State) : (freeDownlink s).ilc = s.ilc := rfl
@[simp] theorem freeDownlink_cvt (s : State) : (freeDownlink s).cvt = s.cvt := rfl
@[simp] theorem freeDownlink_rws (s : State) : (freeDownlink s).rws = s.rws := rfl
@[simp] theorem freeDownlink_tbu (s : State) : (freeDownlink s).tbu = s.tbu := rfl
@[simp] theorem freeDownlink_freeIx (s : State) : (freeDownlink s).freeIx = s.freeIx := rfl
@[simp] theorem freeDownlink_pending (s : State) : (freeDownlink s).pending = s.pending := rfl

@[simp] theorem freeDownlink_lnk (s : State) : (freeDownlink s).lnk = { s.lnk with tx := none } := rfl

/-! An answer puts its reply into its place. -/

@[simp] theorem answer_fsq (tag : Byte) (r : State × Answer) : (answer tag r).fsq = r.1.fsq := rfl
@[simp] theorem answer_blk (tag : Byte) (r : State × Answer) : (answer tag r).blk = r.1.blk := rfl
@[simp] theorem answer_odo (tag : Byte) (r : State × Answer) : (answer tag r).odo = r.1.odo := rfl
@[simp] theorem answer_strip (tag : Byte) (r : State × Answer) : (answer tag r).strip = r.1.strip := rfl
@[simp] theorem answer_bcf (tag : Byte) (r : State × Answer) : (answer tag r).bcf = r.1.bcf := rfl
@[simp] theorem answer_geo (tag : Byte) (r : State × Answer) : (answer tag r).geo = r.1.geo := rfl
@[simp] theorem answer_ilc (tag : Byte) (r : State × Answer) : (answer tag r).ilc = r.1.ilc := rfl
@[simp] theorem answer_cvt (tag : Byte) (r : State × Answer) : (answer tag r).cvt = r.1.cvt := rfl
@[simp] theorem answer_rws (tag : Byte) (r : State × Answer) : (answer tag r).rws = r.1.rws := rfl
@[simp] theorem answer_tbu (tag : Byte) (r : State × Answer) : (answer tag r).tbu = r.1.tbu := rfl
@[simp] theorem answer_freeIx (tag : Byte) (r : State × Answer) : (answer tag r).freeIx = r.1.freeIx := rfl
@[simp] theorem answer_pending (tag : Byte) (r : State × Answer) : (answer tag r).pending = r.1.pending := rfl

@[simp] theorem answer_lnk (tag : Byte) (r : State × Answer) :
    (answer tag r).lnk = r.1.lnk.putReply ⟨tag, r.2.code, r.2.payload, false⟩ := rfl

/-! A millisecond passes. -/

@[simp] theorem tick_fsq (s : State) : (tick s).fsq = s.fsq := rfl
@[simp] theorem tick_blk (s : State) : (tick s).blk = s.blk := rfl
@[simp] theorem tick_strip (s : State) : (tick s).strip = s.strip := rfl
@[simp] theorem tick_bcf (s : State) : (tick s).bcf = s.bcf := rfl
@[simp] theorem tick_geo (s : State) : (tick s).geo = s.geo := rfl
@[simp] theorem tick_ilc (s : State) : (tick s).ilc = s.ilc := rfl
@[simp] theorem tick_cvt (s : State) : (tick s).cvt = s.cvt := rfl
@[simp] theorem tick_rws (s : State) : (tick s).rws = s.rws := rfl
@[simp] theorem tick_tbu (s : State) : (tick s).tbu = s.tbu := rfl
@[simp] theorem tick_lnk (s : State) : (tick s).lnk = s.lnk := rfl
@[simp] theorem tick_freeIx (s : State) : (tick s).freeIx = s.freeIx := rfl
@[simp] theorem tick_pending (s : State) : (tick s).pending = s.pending := rfl

/-! START's own effects. -/

@[simp] theorem startEffects_odo (s : State) : (startEffects s).odo = s.odo := rfl
@[simp] theorem startEffects_strip (s : State) : (startEffects s).strip = s.strip := rfl
@[simp] theorem startEffects_bcf (s : State) : (startEffects s).bcf = s.bcf := rfl
@[simp] theorem startEffects_geo (s : State) : (startEffects s).geo = s.geo := rfl
@[simp] theorem startEffects_cvt (s : State) : (startEffects s).cvt = s.cvt := rfl
@[simp] theorem startEffects_tbu (s : State) : (startEffects s).tbu = s.tbu := rfl
@[simp] theorem startEffects_lnk (s : State) : (startEffects s).lnk = s.lnk := rfl
@[simp] theorem startEffects_freeIx (s : State) : (startEffects s).freeIx = s.freeIx := rfl
@[simp] theorem startEffects_pending (s : State) : (startEffects s).pending = s.pending := rfl

/-! The buffers by number. -/

@[simp] theorem Buffers.get_set_same (b : Buffers) (i : BufferId) (v : Buffer) : (b.set i v).get i = v := by
  cases i <;> rfl

theorem Buffers.get_set_other (b : Buffers) (i j : BufferId) (v : Buffer) (h : j ≠ i) : (b.set i v).get j = b.get j := by
  cases i <;> cases j <;> first | rfl | exact absurd rfl h

@[simp] theorem Buffers.get_map (b : Buffers) (f : Buffer → Buffer) (i : BufferId) : (b.map f).get i = f (b.get i) := by
  cases i <;> rfl

theorem Buffers.mem_all (b : Buffers) (x : Buffer) : x ∈ b.all ↔ ∃ i, x = b.get i := by
  simp only [Buffers.all, List.mem_cons, List.not_mem_nil, or_false]
  constructor
  · rintro (rfl | rfl | rfl)
    · exact ⟨.b0, rfl⟩
    · exact ⟨.b1, rfl⟩
    · exact ⟨.b2, rfl⟩
  · rintro ⟨i, rfl⟩; cases i <;> simp [Buffers.get]

/-! The tables by name. -/

@[simp] theorem Tbu.get_set_same (t : Tbu) (i : TableId) (v : TableState) : (t.set i v).get i = v := by
  cases i <;> rfl

theorem Tbu.get_set_other (t : Tbu) (i j : TableId) (v : TableState) (h : j ≠ i) : (t.set i v).get j = t.get j := by
  cases i <;> cases j <;> first | rfl | exact absurd rfl h

@[simp] theorem Tbu.set_parked (t : Tbu) (i : TableId) (v : TableState) : (t.set i v).parked = t.parked := by
  cases i <;> rfl

end Sys2Proof.Machine
end

