-- ==== Sys2Proof/Laws/Ops.lean ====
section
/-! SUPPORT. What each shared operation can do, said once: the blocks it may change, and the shape of what it gives. Later
proofs cite these instead of unfolding the operation. -/

namespace Sys2Proof.Machine

/-! ## The advisory level (R32) -/

theorem Odo.reformLevel_cases (o : Odo) (op : OpState) :
    (o.formedLevel op = o.level ∧ o.reformLevel op = o)
      ∨ (o.formedLevel op ≠ o.level ∧ o.reformLevel op = { o with level := o.formedLevel op, advisoryDue := true }) := by
  unfold Odo.reformLevel
  by_cases h : o.formedLevel op = o.level
  · exact Or.inl ⟨h, if_pos h⟩
  · exact Or.inr ⟨h, if_neg h⟩

@[simp] theorem Odo.reformLevel_level (o : Odo) (op : OpState) : (o.reformLevel op).level = o.formedLevel op := by
  rcases o.reformLevel_cases op with ⟨h, e⟩ | ⟨_, e⟩
  · rw [e, h]
  · rw [e]

@[simp] theorem Odo.reformLevel_advisoryDue (o : Odo) (op : OpState) :
    (o.reformLevel op).advisoryDue = (o.advisoryDue || decide (o.formedLevel op ≠ o.level)) := by
  rcases o.reformLevel_cases op with ⟨h, e⟩ | ⟨h, e⟩
  · rw [e]; simp [h]
  · rw [e]; simp [h]

/-- The level and the mark are all that re-forming can change. -/
theorem Odo.reformLevel_eq (o : Odo) (op : OpState) :
    o.reformLevel op
      = { o with
          level := o.formedLevel op, advisoryDue := o.advisoryDue || decide (o.formedLevel op ≠ o.level) } := by
  rcases o.reformLevel_cases op with ⟨h, e⟩ | ⟨h, e⟩
  · rw [e]; simp [h]
  · rw [e]; simp [h]

/-- A re-formed level is the one the terms call for. -/
theorem Odo.reformLevel_formed (o : Odo) (op : OpState) :
    (o.reformLevel op).level = (o.reformLevel op).formedLevel op := by
  rw [o.reformLevel_eq]; rfl

theorem Advisory.max_or (a b : Advisory) : a.max b = a ∨ a.max b = b := by
  unfold Advisory.max; split <;> simp

theorem Advisory.code_le_max (a b : Advisory) : a.code ≤ (a.max b).code ∧ b.code ≤ (a.max b).code := by
  cases a <;> cases b <;> decide

/-! ## Raising items (R185) -/

/-- Raising touches the control queue and its two counts alone. -/
theorem Lnk.raise_frame (l : Lnk) (i : ControlItem) :
    l.raise i
      = { l with
          controlQueue := (l.raise i).controlQueue
          summariesDropped := (l.raise i).summariesDropped
          eventsDropped := (l.raise i).eventsDropped } := by
  unfold Lnk.raise; repeat' split
  all_goals rfl

theorem Lnk.raise_room (l : Lnk) (i : ControlItem) (h : l.controlQueue.length < Config.controlSlots) :
    l.raise i = { l with controlQueue := l.controlQueue ++ [i] } := if_pos h

@[simp] theorem Lnk.raise_rx (l : Lnk) (i : ControlItem) : (l.raise i).rx = l.rx := by rw [l.raise_frame]
@[simp] theorem Lnk.raise_cmdQueue (l : Lnk) (i : ControlItem) : (l.raise i).cmdQueue = l.cmdQueue := by
  rw [l.raise_frame]
@[simp] theorem Lnk.raise_replies (l : Lnk) (i : ControlItem) : (l.raise i).replies = l.replies := by
  rw [l.raise_frame]
@[simp] theorem Lnk.raise_pointer (l : Lnk) (i : ControlItem) : (l.raise i).pointer = l.pointer := by
  rw [l.raise_frame]
@[simp] theorem Lnk.raise_tx (l : Lnk) (i : ControlItem) : (l.raise i).tx = l.tx := by rw [l.raise_frame]
@[simp] theorem Lnk.raise_accepted (l : Lnk) (i : ControlItem) : (l.raise i).accepted = l.accepted := by
  rw [l.raise_frame]
@[simp] theorem Lnk.raise_overflows (l : Lnk) (i : ControlItem) : (l.raise i).overflows = l.overflows := by
  rw [l.raise_frame]

theorem dropOldestSummary_length (q : List ControlItem) (h : q.any ControlItem.isSummary = true) :
    (dropOldestSummary q).length + 1 = q.length := by
  induction q with
  | nil => simp at h
  | cons x q ih =>
    simp only [dropOldestSummary]
    cases hx : x.isSummary with
    | true => simp
    | false =>
      simp only [List.any_cons, hx, Bool.false_or] at h
      simpa using ih h

/-- What leaves the queue is its oldest summary, and nothing else. -/
theorem dropOldestSummary_split (front behind : List ControlItem) (oldest : ControlItem)
    (hf : ∀ x ∈ front, x.isSummary = false) (ho : oldest.isSummary = true) :
    dropOldestSummary (front ++ oldest :: behind) = front ++ behind := by
  induction front with
  | nil => simp [dropOldestSummary, ho]
  | cons x front ih =>
    have hx := hf x (by simp)
    simp [dropOldestSummary, hx, ih (fun y hy => hf y (by simp [hy]))]

theorem Lnk.raise_length (l : Lnk) (i : ControlItem) (h : l.controlQueue.length ≤ Config.controlSlots) :
    (l.raise i).controlQueue.length ≤ Config.controlSlots := by
  unfold Lnk.raise
  split
  · simp_all
  · split
    · exact h
    · split
      · rename_i hs
        have := dropOldestSummary_length _ hs
        simp only [List.length_append, List.length_singleton]; omega
      · exact h

/-! ## Commits and the parked SYNC (R165 to R169) -/

theorem answerSync_frame (s : State) :
    answerSync s = { s with tbu := (answerSync s).tbu, lnk := (answerSync s).lnk } := by
  unfold answerSync; repeat' split
  all_goals rfl

theorem applyCommit_frame (i : TableId) (p : CommitPoint) (s : State) :
    applyCommit i p s = { s with tbu := (applyCommit i p s).tbu, lnk := (applyCommit i p s).lnk } := by
  unfold applyCommit; dsimp only
  split
  · rfl
  · split <;> (rw [answerSync_frame]; rfl)

theorem applyIdleCommits_streaming (s : State) (h : s.fsq.opState = .streaming) : applyIdleCommits s = s := if_pos h

theorem applyIdleCommits_frame (s : State) :
    applyIdleCommits s = { s with tbu := (applyIdleCommits s).tbu, lnk := (applyIdleCommits s).lnk } := by
  unfold applyIdleCommits; dsimp only
  split
  · rfl
  · split
    · rw [applyCommit_frame .shade, applyCommit_frame .profile]
    · rw [applyCommit_frame .column, applyCommit_frame .shade, applyCommit_frame .profile]

theorem applyRenderCommits_frame (n : Nat) (s : State) :
    applyRenderCommits n s = { s with tbu := (applyRenderCommits n s).tbu, lnk := (applyRenderCommits n s).lnk } := by
  unfold applyRenderCommits
  rw [applyCommit_frame .shade, applyCommit_frame .profile]

/-- What an answered or waiting SYNC leaves of the tables: all of them. -/
theorem answerSync_tables (s : State) :
    (answerSync s).tbu = { s.tbu with parked := (answerSync s).tbu.parked } := by
  unfold answerSync; repeat' split
  all_goals rfl

/-- The tables after an application: the one table, applied or disarmed, and the parked SYNC. -/
theorem applyCommit_tbu (i : TableId) (p : CommitPoint) (s : State) :
    (applyCommit i p s).tbu
      = { s.tbu.set i
            (match (s.tbu.get i).armed with
              | none => s.tbu.get i
              | some e => if e = (s.tbu.get i).gen then (s.tbu.get i).apply else { s.tbu.get i with armed := none })
          with parked := (applyCommit i p s).tbu.parked } := by
  unfold applyCommit; dsimp only
  split
  · rename_i h; cases i <;> simp_all [Tbu.set, Tbu.get]
  · rename_i e h
    split
    · rename_i h'
      rw [answerSync_tables]
      simp [h, h']
    · rename_i h'
      rw [answerSync_tables]
      simp [h, h']

/-- Nothing stays armed on a table whose commit has met its application point. -/
@[simp] theorem applyCommit_armed (i : TableId) (p : CommitPoint) (s : State) :
    ((applyCommit i p s).tbu.get i).armed = none := by
  rw [applyCommit_tbu]
  split
  · rename_i h; cases i <;> simp_all [Tbu.set, Tbu.get]
  · split <;> cases i <;> rfl

/-- The other tables stay. -/
theorem applyCommit_other (i j : TableId) (p : CommitPoint) (s : State) (h : j ≠ i) :
    (applyCommit i p s).tbu.get j = s.tbu.get j := by
  rw [applyCommit_tbu]
  cases i <;> cases j <;> first | rfl | exact absurd rfl h

/-- An application reads the tables and the link alone. -/
theorem applyCommit_congr (i : TableId) (p : CommitPoint) (s t : State) (htbu : s.tbu = t.tbu) (hlnk : s.lnk = t.lnk) :
    (applyCommit i p s).tbu = (applyCommit i p t).tbu ∧ (applyCommit i p s).lnk = (applyCommit i p t).lnk := by
  unfold applyCommit; dsimp only; rw [htbu]
  split
  · exact ⟨htbu, hlnk⟩
  · split <;> simp only [answerSync, raiseEvent, raise, hlnk] <;>
      (constructor <;> (repeat' split) <;> first | rfl | contradiction | simp_all)

/-! ## Operating state (R34) -/

/-- A change of operating state reaches FSQ's state, the loop, the level, and what the commits touch. -/
theorem setOpState_frame (op : OpState) (s : State) :
    setOpState op s
      = { s with
          fsq := { s.fsq with opState := op }
          ilc := if op = .streaming then s.ilc else s.ilc.goDark
          odo := s.odo.reformLevel op
          tbu := (setOpState op s).tbu
          lnk := (setOpState op s).lnk } := by
  unfold setOpState; dsimp only
  rw [applyIdleCommits_frame]
  rfl

theorem stopTest_frame (s : State) :
    stopTest s
      = { s with
          fsq := { s.fsq with opState := (stopTest s).fsq.opState, holdMark := (stopTest s).fsq.holdMark }
          ilc := (stopTest s).ilc
          odo := (stopTest s).odo
          tbu := (stopTest s).tbu
          lnk := (stopTest s).lnk } := by
  unfold stopTest
  split
  · rw [setOpState_frame]; rfl
  · rfl

/-! ## Exposures (R44) -/

/-- An exposure start reaches FSQ, X, the tables and the link. -/
theorem startExposure_frame (k : FrameKind) (i : BufferId) (s : State) :
    startExposure k i s
      = { s with
          fsq := (startExposure k i s).fsq
          odo := (startExposure k i s).odo
          tbu := (startExposure k i s).tbu
          lnk := (startExposure k i s).lnk } := by
  unfold startExposure; dsimp only
  rw [applyCommit_frame]

theorem expire_frame (s : State) :
    expire s
      = { s with fsq := (expire s).fsq, odo := (expire s).odo, tbu := (expire s).tbu, lnk := (expire s).lnk } := by
  unfold expire
  split
  · rfl
  · split
    · rfl
    · rw [startExposure_frame]

/-! ## The row store (R142 to R146) -/

@[simp] theorem Rws.push_fill (r : Rws) (e : Entry) : (r.push e).fill = r.fill + 1 := by
  simp [Rws.push, Rws.fill]

@[simp] theorem Rws.push_rowCount_row (r : Rws) (e : RowEntry) : (r.push (.row e)).rowCount = r.rowCount + 1 := by
  simp [Rws.push, Rws.rowCount, List.filter_cons, Entry.isRow]

@[simp] theorem Rws.push_rowCount_gap (r : Rws) (g : GapEntry) : (r.push (.gap g)).rowCount = r.rowCount := by
  simp [Rws.push, Rws.rowCount, Entry.isRow]

theorem takeGapRange_frame (a b : Int) (n : Nat) (d : Direction) (s : State) :
    takeGapRange a b n d s
      = { s with
          odo := (takeGapRange a b n d s).odo
          rws := (takeGapRange a b n d s).rws
          lnk := (takeGapRange a b n d s).lnk } := by
  unfold takeGapRange; repeat' split
  all_goals rfl

theorem takeGapRanges_frame (ranges : List (Int × Int)) (n : Nat) (d : Direction) (s : State) :
    takeGapRanges ranges n d s
      = { s with
          odo := (takeGapRanges ranges n d s).odo
          rws := (takeGapRanges ranges n d s).rws
          lnk := (takeGapRanges ranges n d s).lnk } := by
  induction ranges generalizing s with
  | nil => rfl
  | cons r rest ih =>
    have step : takeGapRanges (r :: rest) n d s = takeGapRanges rest n d (takeGapRange r.1 r.2 n d s) := rfl
    rw [step, ih, takeGapRange_frame]

/-- A gap range taken reads the store, the link, ODO and the operating state alone. -/
theorem takeGapRange_congr (a b : Int) (n : Nat) (d : Direction) (s t : State) (hrws : s.rws = t.rws)
    (hlnk : s.lnk = t.lnk) (hodo : s.odo = t.odo) (hop : s.fsq.opState = t.fsq.opState) :
    (takeGapRange a b n d s).rws = (takeGapRange a b n d t).rws
      ∧ (takeGapRange a b n d s).lnk = (takeGapRange a b n d t).lnk
      ∧ (takeGapRange a b n d s).odo = (takeGapRange a b n d t).odo
      ∧ (takeGapRange a b n d s).fsq.opState = (takeGapRange a b n d t).fsq.opState := by
  unfold takeGapRange; rw [hrws]
  split
  · exact ⟨rfl, hlnk, hodo, hop⟩
  · split <;> simp [storeEntry, fillChanged, raiseEvent, raise, hrws, hlnk, hodo, hop]

theorem takeGapRanges_congr (ranges : List (Int × Int)) (n : Nat) (d : Direction) (s t : State) (hrws : s.rws = t.rws)
    (hlnk : s.lnk = t.lnk) (hodo : s.odo = t.odo) (hop : s.fsq.opState = t.fsq.opState) :
    (takeGapRanges ranges n d s).rws = (takeGapRanges ranges n d t).rws
      ∧ (takeGapRanges ranges n d s).lnk = (takeGapRanges ranges n d t).lnk
      ∧ (takeGapRanges ranges n d s).odo = (takeGapRanges ranges n d t).odo
      ∧ (takeGapRanges ranges n d s).fsq.opState = (takeGapRanges ranges n d t).fsq.opState := by
  induction ranges generalizing s t with
  | nil => exact ⟨hrws, hlnk, hodo, hop⟩
  | cons r rest ih =>
    have step := takeGapRange_congr r.1 r.2 n d s t hrws hlnk hodo hop
    exact ih _ _ step.1 step.2.1 step.2.2.1 step.2.2.2

/-- A gap range changes the store term, the level and the mark, and leaves the coverage term. -/
theorem takeGapRange_coverageTerm (a b : Int) (n : Nat) (d : Direction) (s : State) :
    (takeGapRange a b n d s).odo.coverageTerm = s.odo.coverageTerm := by
  unfold takeGapRange; split
  · rfl
  · split
    · simp only [storeEntry, fillChanged, Odo.fillChanged, Odo.reformLevel]; split <;> rfl
    · rfl

/-- A take row's decision reaches CVT, the store and ODO. -/
theorem decideRow_frame (e : RowEntry) (s : State) :
    decideRow e s
      = { s with cvt := (decideRow e s).cvt, rws := (decideRow e s).rws, odo := (decideRow e s).odo } := by
  unfold decideRow; dsimp only
  split <;> rfl

theorem handOn_frame (k : RenderContext) (item : RowItem) (pixels : List Pixel) (s : State) :
    handOn k item pixels s
      = { s with
          cvt := (handOn k item pixels s).cvt
          rws := (handOn k item pixels s).rws
          odo := (handOn k item pixels s).odo } := by
  cases item with
  | take n sp => exact decideRow_frame _ s
  | meter sp => rfl

/-! ## The two transmitters (R184, R23) -/

/-- The arbiter reaches the link, the store's sending marks and sequence number, and the preview's sending mark. -/
theorem arbitrate_frame (s : State) :
    arbitrate s
      = { s with
          rws := { s.rws with
            wallSending := (arbitrate s).rws.wallSending
            seq := (arbitrate s).rws.seq
            preview := (arbitrate s).rws.preview }
          lnk := { s.lnk with
            replies := (arbitrate s).lnk.replies
            controlQueue := (arbitrate s).lnk.controlQueue
            pointer := (arbitrate s).lnk.pointer
            tx := (arbitrate s).lnk.tx } } := by
  unfold arbitrate
  split
  · rfl
  · split
    · rfl
    · split
      · rename_i d _
        cases d <;> (simp only [startStream]; repeat' split) <;> rfl
      · rfl

@[simp] theorem arbitrate_odo (s : State) : (arbitrate s).odo = s.odo := by rw [arbitrate_frame]

/-- The port's transmitter takes the mark and the response it sends, and nothing else. -/
theorem Odo.portNext_frame (o : Odo) (b : Bool) :
    o.portNext b
      = { o with
          portTx := (o.portNext b).portTx
          responses := (o.portNext b).responses
          advisoryDue := (o.portNext b).advisoryDue } := by
  unfold Odo.portNext; repeat' split
  all_goals rfl

theorem Odo.portKick_frame (o : Odo) :
    o.portKick
      = { o with
          portTx := o.portKick.portTx, responses := o.portKick.responses, advisoryDue := o.portKick.advisoryDue } := by
  unfold Odo.portKick
  split
  · rfl
  · exact o.portNext_frame false

theorem Odo.portKick_busy (o : Odo) (h : o.portTx.isSome = true) : o.portKick = o := if_pos h

theorem arbitrate_busy (s : State) (h : s.lnk.tx.isSome = true) : arbitrate s = s := if_pos h

/-- A settled part stays as it is. -/
theorem settle_busy (s : State) (h : s.lnk.tx.isSome = true) (h' : s.odo.portTx.isSome = true) : settle s = s := by
  unfold settle; rw [arbitrate_busy s h, Odo.portKick_busy _ h']

@[simp] theorem settle_fsq (s : State) : (settle s).fsq = s.fsq := by unfold settle; rw [arbitrate_frame]
@[simp] theorem settle_blk (s : State) : (settle s).blk = s.blk := by unfold settle; rw [arbitrate_frame]
@[simp] theorem settle_strip (s : State) : (settle s).strip = s.strip := by unfold settle; rw [arbitrate_frame]
@[simp] theorem settle_bcf (s : State) : (settle s).bcf = s.bcf := by unfold settle; rw [arbitrate_frame]
@[simp] theorem settle_geo (s : State) : (settle s).geo = s.geo := by unfold settle; rw [arbitrate_frame]
@[simp] theorem settle_ilc (s : State) : (settle s).ilc = s.ilc := by unfold settle; rw [arbitrate_frame]
@[simp] theorem settle_cvt (s : State) : (settle s).cvt = s.cvt := by unfold settle; rw [arbitrate_frame]
@[simp] theorem settle_tbu (s : State) : (settle s).tbu = s.tbu := by unfold settle; rw [arbitrate_frame]
@[simp] theorem settle_freeIx (s : State) : (settle s).freeIx = s.freeIx := by unfold settle; rw [arbitrate_frame]
@[simp] theorem settle_pending (s : State) : (settle s).pending = s.pending := by unfold settle; rw [arbitrate_frame]
@[simp] theorem settle_entries (s : State) : (settle s).rws.entries = s.rws.entries := by
  unfold settle; rw [arbitrate_frame]
@[simp] theorem settle_cmdQueue (s : State) : (settle s).lnk.cmdQueue = s.lnk.cmdQueue := by
  unfold settle; rw [arbitrate_frame]
@[simp] theorem settle_odo (s : State) : (settle s).odo = s.odo.portKick := by
  unfold settle; simp

/-! ## The sums of a calibration (R60) -/

@[simp] theorem addRow_length (sums row : List Nat) : (addRow sums row).length = sums.length := by
  induction sums generalizing row with
  | nil => rfl
  | cons x sums ih => cases row <;> simp [addRow, ih]

/-- A row adds each of its samples to the sum of its own column. -/
theorem addRow_getD (sums row : List Nat) (h : row.length ≤ sums.length) (x : Nat) :
    (addRow sums row).getD x 0 = sums.getD x 0 + row.getD x 0 := by
  induction sums generalizing row x with
  | nil => cases row <;> simp_all [addRow]
  | cons y sums ih =>
    cases row with
    | nil => simp [addRow]
    | cons z row =>
      cases x with
      | zero => simp [addRow]
      | succ x => simpa [addRow] using ih row (by simpa using h) x

/-! ## Arithmetic -/

theorem clampInt_bounds (v lo hi : Int) (h : lo ≤ hi) : lo ≤ clampInt v lo hi ∧ clampInt v lo hi ≤ hi := by
  unfold clampInt; split <;> (try split) <;> omega

theorem clampInt_id (v lo hi : Int) (h : lo ≤ v) (h' : v ≤ hi) : clampInt v lo hi = v := by
  unfold clampInt; split <;> (try split) <;> omega

theorem clampNat_bounds (v lo hi : Nat) (h : lo ≤ hi) : lo ≤ clampNat v lo hi ∧ clampNat v lo hi ≤ hi := by
  unfold clampNat; split <;> (try split) <;> omega

@[simp] theorem padTo_length {α : Type} (d : α) (n : Nat) (l : List α) : (padTo d n l).length = n := by
  induction n generalizing l with
  | zero => rfl
  | succ n ih => cases l <;> simp [padTo, ih]

@[simp] theorem capRule_length (cap : Nat) (drives : List Nat) : (capRule cap drives).length = drives.length := by
  unfold capRule; split <;> simp

@[simp] theorem addStatistics_length (stats : List SectorStat) (pixels : List Pixel) :
    (addStatistics stats pixels).length = stats.length := by
  simp [addStatistics]

@[simp] theorem renderRow_length (k : RenderContext) (samples : List (List Nat)) (sp : Nat) :
    (renderRow k samples sp).length = k.w := by
  simp [renderRow]

end Sys2Proof.Machine
end

