-- ==== Sys2Proof/Laws/Link.lean ====
section
/-! SUPPORT. How a command is taken and answered (R176, R177), how the receiver goes through a message (R173), and the byte
forms of fields, numbers and lines. -/

namespace Sys2Proof.Machine

/-! ## Taking a command -/

theorem takeUpTo_nil (n : Nat) (s : State) (h : s.lnk.cmdQueue = []) : takeUpTo n s = s := by
  cases n with
  | zero => rfl
  | succ n => simp [takeUpTo, h]

/-- A command that finds the queue empty and a place free is run at once. -/
theorem deliver_at_once (w : Waiting) (s : State) (h : Ready s) : deliver w s = runCommand w.tag w.command s := by
  obtain ⟨h1, h2⟩ := h
  have e : { s with lnk := { s.lnk with cmdQueue := [] } } = s := by rw [← h1]
  simp [deliver, takeCommands, h1, takeUpTo, placesUsed] at *
  rw [e]; simp [h2]

theorem arrive_at_once (tag : Byte) (c : Command) (s : State) (h : Ready s) :
    arrive tag c s = settle (runCommand tag c s) := by
  rw [arrive, deliver_at_once _ _ h]

/-- One command taken from a queue of at most `n + 1`. -/
theorem takeUpTo_succ (n : Nat) (s : State) (w : Waiting) (rest : List Waiting) (h : s.lnk.cmdQueue = w :: rest)
    (hp : placesUsed s < Config.replyPlaces) :
    takeUpTo (n + 1) s = takeUpTo n (runCommand w.tag w.command { s with lnk := { s.lnk with cmdQueue := rest } }) := by
  simp only [takeUpTo, h]; exact if_pos hp

theorem takeUpTo_full (n : Nat) (s : State) (hp : Config.replyPlaces ≤ placesUsed s) : takeUpTo n s = s := by
  cases n with
  | zero => rfl
  | succ n =>
    simp only [takeUpTo]
    split
    · rfl
    · exact if_neg (by omega)

/-! ## The receiver -/

@[simp] theorem feedBytes_nil (s : State) : feedBytes [] s = s := rfl

@[simp] theorem feedBytes_cons (b : Byte) (bytes : List Byte) (s : State) :
    feedBytes (b :: bytes) s = feedBytes bytes (feedByte s b) := rfl

theorem feedBytes_append (a b : List Byte) (s : State) : feedBytes (a ++ b) s = feedBytes b (feedBytes a s) :=
  List.foldl_append ..

@[simp] theorem setRx_setRx (a b : RxState) (s : State) : setRx a (setRx b s) = setRx a s := rfl

/-- The receiver where it already stands. -/
theorem setRx_self (rx : RxState) (s : State) (h : s.lnk.rx = rx) : setRx rx s = s := by
  unfold setRx; rw [← h]

theorem feedByte_hunt (b : Byte) (s : State) :
    feedByte (setRx .hunt s) b = setRx (if b = 0xA5 then .sync else .hunt) s := rfl

theorem feedByte_sync (b : Byte) (s : State) :
    feedByte (setRx .sync s) b = setRx (if b = 0x5A then .header [] else if b = 0xA5 then .sync else .hunt) s := rfl

/-- Bytes in which no sync pair stands leave the receiver hunting, or in SYNC behind a 0xA5; the 0xA5 of the next sync pair
finds it ready (R173). -/
theorem feedBytes_noise (noise : List Byte) (s : State) (h : s.lnk.rx = .hunt)
    (hn : ∀ front behind, noise ≠ front ++ 0xA5 :: 0x5A :: behind) :
    feedBytes (noise ++ [0xA5]) s = setRx .sync s := by
  have both : ∀ noise : List Byte, (∀ front behind, noise ≠ front ++ 0xA5 :: 0x5A :: behind) →
      feedBytes (noise ++ [0xA5]) (setRx .hunt s) = setRx .sync s
      ∧ (noise.head? ≠ some 0x5A → feedBytes (noise ++ [0xA5]) (setRx .sync s) = setRx .sync s) := by
    intro noise
    induction noise with
    | nil => intro _; simp [feedByte_hunt, feedByte_sync]
    | cons b rest ih =>
      intro hn
      have ih := ih (by rintro f b' rfl; exact hn (b :: f) b' rfl)
      have next : b = 0xA5 → rest.head? ≠ some 0x5A := by
        rintro rfl hh
        cases rest with
        | nil => simp at hh
        | cons c r => simp at hh; subst hh; exact hn [] r rfl
      constructor
      · rw [List.cons_append, feedBytes_cons, feedByte_hunt]
        split
        · exact ih.2 (next ‹_›)
        · exact ih.1
      · intro hx
        rw [List.cons_append, feedBytes_cons, feedByte_sync, if_neg (by simpa using hx)]
        split
        · exact ih.2 (next ‹_›)
        · exact ih.1
  have hunting := (both noise hn).1
  rwa [setRx_self _ _ h] at hunting

/-- The payload in full, from its first byte on. -/
theorem feedBytes_payload (kind tag : Byte) (n : Nat) (bytes got : List Byte) (s : State)
    (hb : bytes ≠ []) (hn : got.length + bytes.length = n) :
    feedBytes bytes (setRx (.payload kind tag n got) s) = setRx (.check kind tag (got ++ bytes) none) s := by
  induction bytes generalizing got with
  | nil => exact absurd rfl hb
  | cons b rest ih =>
    have step : feedByte (setRx (.payload kind tag n got) s) b
        = if n ≤ got.length + 1 then setRx (.check kind tag (got ++ [b]) none) s
          else setRx (.payload kind tag n (got ++ [b])) s := rfl
    rw [feedBytes_cons, step]
    cases rest with
    | nil => simp at hn; rw [if_pos (by omega)]; simp
    | cons c rest =>
      rw [if_neg (by simp at hn; omega), ih (got ++ [b]) (by simp) (by simp at hn ⊢; omega)]
      simp

/-! ## Bytes of fields and numbers (R172) -/

@[simp] theorem half_halfBytes (h : Half) : half (h.extractLsb' 0 8) (h.extractLsb' 8 8) = h := by
  apply BitVec.eq_of_getLsbD_eq
  intro i hi
  simp only [half, BitVec.getLsbD_append, BitVec.getLsbD_extractLsb']
  split <;> rename_i h8 <;> simp_all
  omega

@[simp] theorem word_wordBytes (w : Word) :
    word (w.extractLsb' 0 8) (w.extractLsb' 8 8) (w.extractLsb' 16 8) (w.extractLsb' 24 8) = w := by
  apply BitVec.eq_of_getLsbD_eq
  intro i hi
  simp only [word, BitVec.getLsbD_append, BitVec.getLsbD_extractLsb']
  by_cases h1 : i < 8
  · simp [h1]
  · by_cases h2 : i < 16
    · simp [h1, show i - 8 < 8 by omega, show 8 + (i - 8) = i by omega]
    · by_cases h3 : i < 24
      · simp [h1, show ¬ i - 8 < 8 by omega, show i - 8 - 8 < 8 by omega, show 16 + (i - 8 - 8) = i by omega]
      · simp [h1, show ¬ i - 8 < 8 by omega, show ¬ i - 8 - 8 < 8 by omega, show i - 8 - 8 - 8 < 8 by omega,
          show 24 + (i - 8 - 8 - 8) = i by omega]

@[simp] theorem leBytes_length (k v : Nat) : (leBytes k v).length = k := by
  induction k generalizing v with
  | zero => rfl
  | succ k ih => simp [leBytes, ih]

@[simp] theorem leInt_length (k : Nat) (v : Int) : (leInt k v).length = k := leBytes_length _ _

/-- The host lays fields out as the part does (R172). -/
theorem halfBytes_eq (h : Half) : halfBytes h = leBytes 2 h.toNat := by
  simp only [halfBytes, leBytes, List.cons.injEq, and_true]
  constructor <;> (apply BitVec.eq_of_toNat_eq; simp [BitVec.extractLsb'_toNat, Nat.shiftRight_eq_div_pow])

theorem wordBytes_eq (w : Word) : wordBytes w = leBytes 4 w.toNat := by
  simp only [wordBytes, leBytes, List.cons.injEq, and_true]
  refine ⟨?_, ?_, ?_, ?_⟩ <;>
    (apply BitVec.eq_of_toNat_eq; simp [BitVec.extractLsb'_toNat, Nat.shiftRight_eq_div_pow, Nat.div_div_eq_div_mul])

/-- The values of a TABLE WRITE are read when their bytes pair off, and there are half as many. -/
theorem halves_cases (bytes : List Byte) :
    (halves bytes = none ↔ bytes.length % 2 = 1) ∧ ∀ vs, halves bytes = some vs → 2 * vs.length = bytes.length := by
  induction bytes using halves.induct with
  | case1 => simp [halves]
  | case2 => simp [halves]
  | case3 lo hi rest ih =>
    simp only [halves, Option.map_eq_none_iff, List.length_cons, Option.map_eq_some_iff]
    refine ⟨by rw [ih.1]; omega, ?_⟩
    rintro vs ⟨tail, ht, rfl⟩
    have := ih.2 tail ht
    simp; omega

/-- The two bytes of a length are read back as it. -/
theorem half_of_leBytes (n : Nat) (h : n < 65536) :
    (half (BitVec.ofNat 8 n) (BitVec.ofNat 8 (n / 256))).toNat = n := by
  unfold half
  rw [BitVec.toNat_append, BitVec.toNat_ofNat, BitVec.toNat_ofNat, ← Nat.shiftLeft_add_eq_or_of_lt (by omega)]
  simp [Nat.shiftLeft_eq]; omega

@[simp] theorem halves_flatMap (values : List Half) : halves (values.flatMap halfBytes) = some values := by
  induction values with
  | nil => rfl
  | cons v rest ih => simp [halfBytes, halves] at *; simp [ih]

/-! ## Layouts of fields (R172, R189) -/

/-- A natural number is laid out alike as a signed and as an unsigned field. -/
@[simp] theorem leInt_natCast (k v : Nat) : leInt k (v : Int) = leBytes k v := by
  have mod : ∀ k v : Nat, leBytes k (v % 256 ^ k) = leBytes k v := by
    intro k
    induction k with
    | zero => intro v; rfl
    | succ k ih =>
      intro v
      have low : BitVec.ofNat 8 (v % 256 ^ (k + 1)) = BitVec.ofNat 8 v := by
        apply BitVec.eq_of_toNat_eq
        rw [BitVec.toNat_ofNat, BitVec.toNat_ofNat]
        exact Nat.mod_mod_of_dvd _ (Dvd.intro_left (256 ^ k) (pow_succ 256 k).symm)
      have high : v % 256 ^ (k + 1) / 256 = v / 256 % 256 ^ k := by
        rw [pow_succ, mul_comm, Nat.mod_mul_right_div_self]
      simp only [leBytes, low, high, ih]
  have cast : (v : Int) % ((256 ^ k : Nat) : Int) = ((v % 256 ^ k : Nat) : Int) := by push_cast; rfl
  unfold leInt
  rw [cast, Int.toNat_natCast, mod]

@[simp] theorem leInt_zero (k : Nat) : leInt k 0 = leBytes k 0 := leInt_natCast k 0

@[simp] theorem leInt_one (k : Nat) : leInt k 1 = leBytes k 1 := leInt_natCast k 1

@[simp] theorem leInt_ofNat (k n : Nat) [n.AtLeastTwo] : leInt k (ofNat(n) : Int) = leBytes k n :=
  leInt_natCast k n

@[simp] theorem laidOut_nil : laidOut [] = [] := rfl

@[simp] theorem laidOut_cons (f : Nat × Int) (fields : List (Nat × Int)) :
    laidOut (f :: fields) = leInt f.1 f.2 ++ laidOut fields := List.flatMap_cons

@[simp] theorem laidOut_append (a b : List (Nat × Int)) : laidOut (a ++ b) = laidOut a ++ laidOut b :=
  List.flatMap_append

/-- A run of values of one size. -/
@[simp] theorem laidOut_map {α : Type} (k : Nat) (g : α → Int) (l : List α) :
    laidOut (l.map (fun x => (k, g x))) = l.flatMap (fun x => leInt k (g x)) := by
  simp [laidOut, List.flatMap_map]

@[simp] theorem laidOut_flatMap {α : Type} (g : α → List (Nat × Int)) (l : List α) :
    laidOut (l.flatMap g) = l.flatMap (fun x => laidOut (g x)) := by
  simp [laidOut, List.flatMap_assoc]

@[simp] theorem laidOut_presenceFields (k : Nat) (v : Option Int) : laidOut (presenceFields k v) = optInt k v := by
  cases v <;> simp [presenceFields, optInt]

@[simp] theorem optInt_natCast (k : Nat) (v : Option Nat) : optInt k (v.map Int.ofNat) = optBytes k v := by
  cases v with
  | none => simp [optInt, optBytes]
  | some v => exact congrArg (leBytes 1 1 ++ ·) (leInt_natCast k v)

/-! ## Lines of the crawler port (R22) -/

/-- A clean line is examined by its text alone. -/
theorem classifyLine_clean (text : List Byte) (h : text.length ≤ 40) (hp : text.all printable = true) :
    classifyLine (cleanLine text) = lineForm text := by
  have e : cleanLine text = text.map (fun b => (⟨b, false⟩ : LineChar)) ++ [⟨0x0D, false⟩] := by simp [cleanLine]
  rw [e]
  unfold classifyLine
  rw [List.getLast?_append]
  simp only [List.getLast?_singleton, Option.some_or, List.dropLast_concat, List.length_map]
  rw [if_neg]
  · simp [Function.comp_def]
  · simp at hp ⊢
    exact ⟨h, hp⟩

/-- A line of more than 41 characters before its LF is malformed whatever it holds (R22). -/
theorem classifyLine_long (chars : List LineChar) (h : 41 < chars.length) : classifyLine chars = .malformed := by
  unfold classifyLine
  cases hl : chars.getLast? with
  | none => rfl
  | some last =>
    have hd : 40 < chars.dropLast.length := by rw [List.length_dropLast]; omega
    exact if_pos (by simp only [decide_eq_true hd, Bool.or_true, Bool.true_or])

/-! Each part of a line reaches ODO alone. -/

theorem receiveLine_frame (chars : List LineChar) (s : State) :
    receiveLine chars s = { s with odo := (receiveLine chars s).odo } := rfl

theorem gatherLine_eq (chars : List LineChar) (s : State) :
    gatherLine chars s = { s with odo := { s.odo with lineBuf := (s.odo.lineBuf ++ chars).take 42 } } := rfl

end Sys2Proof.Machine
end

