-- ==== Sys2Proof/Laws/Sine.lean ====
section
/-! SUPPORT. The sine ROM holds what R75 says: every entry is 16384 times the sine of its angle, rounded to the nearest. The
sines of all the angles are enclosed one after another, in units of 2^-60, by turning through one angle step at a time. -/

namespace Sys2Proof.Machine

/-- The unit of the enclosures. -/
abbrev sineUnit : Int := 1152921504606846976

/-- The sine and the cosine of one angle step, 2π/4096, in units, and how far off they are at most. -/
abbrev stepSine : Int := 1768558744408441
abbrev stepCosine : Int := 1152920148138746907
abbrev stepError : Int := 332499

/-- The enclosure `v` of a quantity `x`: x lies within `e` units of it. -/
def Encloses (v e : Int) (x : ℝ) : Prop := |x * sineUnit - v| ≤ e

theorem step_angle_bounds : (0.00153398078788564 : ℝ) < Real.pi / 2048 ∧ Real.pi / 2048 < 0.00153398078788565 := by
  have h1 := Real.pi_gt_d20
  have h2 := Real.pi_lt_d20
  constructor <;> [skip; skip] <;> norm_num at * <;> linarith

theorem stepSine_encloses : Encloses stepSine stepError (Real.sin (Real.pi / 2048)) := by
  obtain ⟨lo, hi⟩ := step_angle_bounds
  generalize Real.pi / 2048 = x at lo hi
  have x0 : (0 : ℝ) ≤ x := by linarith
  have b := abs_le.mp (Real.sin_bound (x := x) (by rw [abs_of_nonneg x0]; linarith))
  rw [abs_of_nonneg x0] at b
  have c3 : x ^ 3 ≤ 0.00153398078788565 ^ 3 := pow_le_pow_left₀ x0 hi.le 3
  have d3 : (0.00153398078788564 : ℝ) ^ 3 ≤ x ^ 3 := pow_le_pow_left₀ (by norm_num) lo.le 3
  have c5 : x ^ 5 ≤ 0.00153398078788565 ^ 5 := pow_le_pow_left₀ x0 hi.le 5
  norm_num at c3 d3 c5
  rw [Encloses, abs_le]
  constructor <;> push_cast [sineUnit, stepSine, stepError] <;> linarith [b.1, b.2]

theorem stepCosine_encloses : Encloses stepCosine stepError (Real.cos (Real.pi / 2048)) := by
  obtain ⟨lo, hi⟩ := step_angle_bounds
  generalize Real.pi / 2048 = x at lo hi
  have x0 : (0 : ℝ) ≤ x := by linarith
  have b := abs_le.mp (Real.cos_bound (x := x) (by rw [abs_of_nonneg x0]; linarith))
  rw [abs_of_nonneg x0] at b
  have c2 : x ^ 2 ≤ 0.00153398078788565 ^ 2 := pow_le_pow_left₀ x0 hi.le 2
  have d2 : (0.00153398078788564 : ℝ) ^ 2 ≤ x ^ 2 := pow_le_pow_left₀ (by norm_num) lo.le 2
  have c4 : x ^ 4 ≤ 0.00153398078788565 ^ 4 := pow_le_pow_left₀ x0 hi.le 4
  norm_num at c2 d2 c4
  rw [Encloses, abs_le]
  constructor <;> push_cast [sineUnit, stepCosine, stepError] <;> linarith [b.1, b.2]

/-- The error after one more turn. -/
def turnError (e : Int) : Int := e + e / 512 + 3 * stepError + 4
/-- The sine and the cosine after one more turn. -/
def turnSine (s c : Int) : Int := (s * stepCosine + c * stepSine) / sineUnit
def turnCosine (s c : Int) : Int := (c * stepCosine - s * stepSine) / sineUnit

/-- One sum of two products, each of a factor known within `e` and a step factor. -/
theorem encloses_turn {a b p q : ℝ} {va vb vp vq e : Int} (ha : Encloses va e a) (hb : Encloses vb e b)
    (hp : Encloses vp stepError p) (hq : Encloses vq stepError q) (a1 : |a| ≤ 1) (b1 : |b| ≤ 1)
    (p1 : |(vp : ℝ)| ≤ sineUnit) (q1 : 512 * |(vq : ℝ)| ≤ sineUnit) :
    Encloses ((va * vp + vb * vq) / sineUnit) (turnError e) (a * p + b * q) := by
  have k : (0 : ℝ) < sineUnit := by norm_num [sineUnit]
  have e0 : (0 : ℝ) ≤ e := le_trans (abs_nonneg _) ha
  have fl : |((va * vp + vb * vq : Int) : ℝ) / sineUnit - (((va * vp + vb * vq) / sineUnit : Int) : ℝ)| ≤ 1 := by
    generalize va * vp + vb * vq = n
    have m := Int.emod_add_mul_ediv n sineUnit
    have lo := Int.emod_nonneg n (b := sineUnit) (by norm_num [sineUnit])
    have hi := Int.emod_lt_of_pos n (b := sineUnit) (by norm_num [sineUnit])
    have e1 : (n : ℝ) / sineUnit - ((n / sineUnit : Int) : ℝ) = ((n % sineUnit : Int) : ℝ) / sineUnit := by
      have : (n : ℝ) = ((n % sineUnit : Int) : ℝ) + (sineUnit : ℝ) * ((n / sineUnit : Int) : ℝ) := by
        exact_mod_cast m.symm
      rw [this]; field_simp; simp
    have lo' : (0 : ℝ) ≤ ((n % sineUnit : Int) : ℝ) := by exact_mod_cast lo
    have hi' : ((n % sineUnit : Int) : ℝ) ≤ sineUnit := by exact_mod_cast hi.le
    rw [e1, abs_of_nonneg (div_nonneg lo' k.le)]
    exact (div_le_one k).mpr hi'
  have half : (e : ℝ) / 512 ≤ ((e / 512 : Int) : ℝ) + 1 := by
    have m := Int.emod_add_mul_ediv e 512
    have hi := Int.emod_lt_of_pos e (b := 512) (by norm_num)
    have m' : (e : ℝ) = ((e % 512 : Int) : ℝ) + 512 * ((e / 512 : Int) : ℝ) := by exact_mod_cast m.symm
    have hi' : ((e % 512 : Int) : ℝ) ≤ 512 := by exact_mod_cast hi.le
    linarith
  have split : (a * p + b * q) * sineUnit - ((va * vp + vb * vq : Int) : ℝ) / sineUnit
      = (a * sineUnit - va) * (vp / sineUnit) + a * (p * sineUnit - vp)
        + ((b * sineUnit - vb) * (vq / sineUnit) + b * (q * sineUnit - vq)) := by
    push_cast; field_simp; ring
  have t1 : |(a * sineUnit - va) * (vp / sineUnit)| ≤ e * 1 := by
    rw [abs_mul]
    refine mul_le_mul ha ?_ (abs_nonneg _) e0
    rw [abs_div, abs_of_pos k]; exact (div_le_one k).mpr p1
  have t2 : |a * (p * sineUnit - vp)| ≤ 1 * stepError := by
    rw [abs_mul]; exact mul_le_mul a1 hp (abs_nonneg _) zero_le_one
  have t3 : |(b * sineUnit - vb) * (vq / sineUnit)| ≤ e * (1 / 512) := by
    rw [abs_mul]
    refine mul_le_mul hb ?_ (abs_nonneg _) e0
    rw [abs_div, abs_of_pos k, div_le_iff₀ k]
    calc |(vq : ℝ)| = 1 / 512 * (512 * |(vq : ℝ)|) := by ring
      _ ≤ 1 / 512 * sineUnit := mul_le_mul_of_nonneg_left q1 (by norm_num)
  have t4 : |b * (q * sineUnit - vq)| ≤ 1 * stepError := by
    rw [abs_mul]; exact mul_le_mul b1 hq (abs_nonneg _) zero_le_one
  rw [abs_le] at fl t1 t2 t3 t4
  rw [Encloses, abs_le]
  push_cast [turnError] at *
  constructor <;> linarith [fl.1, fl.2, t1.1, t1.2, t2.1, t2.2, t3.1, t3.2, t4.1, t4.2]

/-- Every entry of a list is within half a count of 16384 times the sine of its angle, judged by the enclosures. -/
def roundsAll : List Nat → Int → Int → Int → Bool
  | [], _, _, _ => true
  | t :: rest, s, c, e =>
    decide (2 * ((t : Int) * sineUnit - 16384 * s) + 32768 * e ≤ sineUnit
        ∧ 2 * (16384 * s - (t : Int) * sineUnit) + 32768 * e ≤ sineUnit)
      && roundsAll rest (turnSine s c) (turnCosine s c) (turnError e)

theorem roundsAll_sound : ∀ (l : List Nat) (y : ℝ) (s c e : Int), Encloses s e (Real.sin y) → Encloses c e (Real.cos y) →
    roundsAll l s c e = true → ∀ i, i < l.length →
    |(l.getD i 0 : ℝ) - 16384 * Real.sin (y + i * (Real.pi / 2048))| ≤ 1 / 2 := by
  intro l
  induction l with
  | nil => intro y s c e _ _ _ i hi; exact absurd hi (Nat.not_lt_zero i)
  | cons t rest ih =>
    intro y s c e hs hc h i hi
    rw [roundsAll, Bool.and_eq_true, decide_eq_true_eq] at h
    cases i with
    | zero =>
      have k : (0 : ℝ) < sineUnit := by norm_num [sineUnit]
      have h1 : 2 * ((t : ℝ) * sineUnit - 16384 * s) + 32768 * e ≤ sineUnit := by exact_mod_cast h.1.1
      have h2 : 2 * (16384 * (s : ℝ) - t * sineUnit) + 32768 * e ≤ sineUnit := by exact_mod_cast h.1.2
      rw [Encloses, abs_le] at hs
      simp only [List.getD_cons_zero, Nat.cast_zero, zero_mul, add_zero]
      rw [abs_le]
      constructor <;> nlinarith [hs.1, hs.2, h1, h2, k]
    | succ i =>
      have hs' : Encloses (turnSine s c) (turnError e) (Real.sin (y + Real.pi / 2048)) := by
        rw [Real.sin_add]
        exact encloses_turn hs hc stepCosine_encloses stepSine_encloses (Real.abs_sin_le_one y) (Real.abs_cos_le_one y)
          (by norm_num [sineUnit, stepCosine]) (by norm_num [sineUnit, stepSine])
      have hc' : Encloses (turnCosine s c) (turnError e) (Real.cos (y + Real.pi / 2048)) := by
        have n : Encloses (-stepSine) stepError (-Real.sin (Real.pi / 2048)) := by
          have h := stepSine_encloses
          rw [Encloses, abs_le] at h ⊢
          push_cast at h ⊢
          constructor <;> linarith [h.1, h.2]
        have t := encloses_turn hc hs stepCosine_encloses n (Real.abs_cos_le_one y) (Real.abs_sin_le_one y)
          (by norm_num [sineUnit, stepCosine]) (by norm_num [sineUnit, stepSine])
        rw [Real.cos_add, turnCosine]
        have e1 : c * stepCosine - s * stepSine = c * stepCosine + s * -stepSine := by ring
        rw [e1]
        have e2 : Real.cos y * Real.cos (Real.pi / 2048) - Real.sin y * Real.sin (Real.pi / 2048)
            = Real.cos y * Real.cos (Real.pi / 2048) + Real.sin y * -Real.sin (Real.pi / 2048) := by ring
        rw [e2]; exact t
      have r := ih (y + Real.pi / 2048) _ _ _ hs' hc' h.2 i (Nat.lt_of_succ_lt_succ hi)
      rw [List.getD_cons_succ]
      have e3 : y + ((i + 1 : Nat) : ℝ) * (Real.pi / 2048) = y + Real.pi / 2048 + i * (Real.pi / 2048) := by
        push_cast; ring
      rw [e3]; exact r

theorem sineRom_roundsAll : roundsAll sineRom.flatten 0 sineUnit 0 = true := by decide +kernel

theorem sineEntries_eq_flatten : (List.range 1025).map sineEntry = sineRom.flatten := by decide +kernel

theorem sineEntry_eq_flatten (i : Nat) (h : i < 1025) : sineEntry i = sineRom.flatten.getD i 0 := by
  rw [← sineEntries_eq_flatten]; simp [List.getD, h]

/-- R75: Tq[i] is 16384 × sin(2π × i / 4096), rounded to the nearest. -/
theorem sineEntry_rounds (i : Nat) (h : i ≤ 1024) :
    |(sineEntry i : ℝ) - 16384 * Real.sin (2 * Real.pi * i / 4096)| ≤ 1 / 2 := by
  have r := roundsAll_sound sineRom.flatten 0 0 sineUnit 0 (by simp [Encloses]) (by simp [Encloses]) sineRom_roundsAll i
    (by rw [← sineEntries_eq_flatten]; simpa using Nat.lt_succ_of_le h)
  rw [sineEntry_eq_flatten i (Nat.lt_succ_of_le h)]
  have e : (0 : ℝ) + i * (Real.pi / 2048) = 2 * Real.pi * i / 4096 := by ring
  rw [e] at r; exact r

end Sys2Proof.Machine
end

