-- ==== Sys2Proof/WellFormed.lean ====
section
/-! DEFINITION. What an operand of a row must look like to be the thing the row names. The commands of the host carry any
field values the tether can carry: the part itself refuses the wrong ones (R175, R178). The model's steps are total on
ill-formed operands too (log 22). -/

namespace Sys2Proof

open Machine

/-- One whole message on the tether (R172): sync pair, kind, tag, length, payload, CRC. The CRC may be wrong. -/
def isFrame : List Byte → Bool
  | s0 :: s1 :: _ :: _ :: l0 :: l1 :: rest =>
    s0 == 0xA5 && s1 == 0x5A && (half l0 l1).toNat ≤ Config.maxPayload && rest.length == (half l0 l1).toNat + 2
  | _ => false

/-- The seventeen command kinds (11.2). -/
def isCommandKind (kind : Byte) : Bool := 0x01 ≤ kind.toNat && kind.toNat ≤ 0x11

/-- Rows of one length, as a sensor window has them, within the largest window (R35, R46). -/
def isReadout (raw : List (List Sample)) : Bool :=
  64 ≤ raw.length && raw.length ≤ 1600
    && raw.all (fun r => r.length == (raw.headD []).length && 64 ≤ r.length && r.length ≤ 1600)

/-- The operands are of the kind the row names. The characters of a line hold no LF, for the LF ends it (R22); a 0x0A that
arrived with a framing error is no LF but a character of the line, and makes it malformed: R22 does not say, the model's
choice, log 31. -/
def Instr.wf : Instr → Bool
  | .acceptedMessage bytes => isFrame bytes
  | .unknownCommand _ kind => !isCommandKind kind
  | .tableWrite _ _ _ values => decide (values.length ≤ 2046)
  | .note _ text => decide (text.length ≤ Config.maxPayload)
  | .readoutCompletion raw => isReadout raw
  | .rollLine digits => decide (rollForm digits ≠ .malformed)
  | .markerLine code => decide (markerForm code ≠ .malformed)
  | .malformedLine part => part.chars.all (fun c => c.framingError || c.byte != 0x0A)
  | .headerLengthFault _ _ length => decide (Config.maxPayload < length.toNat)
  | .powerOnReset => true
  | .silence => true
  | .identify _ _ => true
  | .status _ => true
  | .sensorRecord _ _ => true
  | .stripRecord _ _ => true
  | .lightRecord _ _ => true
  | .centreRecord _ _ => true
  | .odometerRecord _ _ => true
  | .darkRecord _ _ => true
  | .advisoryRecord _ _ => true
  | .previewRecord _ _ => true
  | .presetPosition _ _ => true
  | .tableRead _ _ _ _ _ => true
  | .commit _ _ _ => true
  | .sync _ => true
  | .calibrate _ => true
  | .start _ => true
  | .stop _ => true
  | .relight _ => true
  | .hold _ => true
  | .release _ => true
  | .rerender _ => true
  | .resetStream _ => true
  | .resetFull _ => true
  | .frameTimerExpiry => true
  | .exposureMidpoint => true
  | .exposureEnd => true
  | .rowCompletion => true
  | .trialRowCompletion => true
  | .replyTransmitted => true
  | .wallReportTransmitted => true
  | .markerReportTransmitted => true
  | .controlItemTransmitted => true
  | .previewTileTransmitted => true
  | .quadratureTransition _ _ => true
  | .speedWindowExpiry => true
  | .qLine => true
  | .portLineTransmitted => true
  | .advisoryRepeatExpiry => true

end Sys2Proof
end

