-- ==== Sys2Proof/Tests/Slice0.lean ====
section
/-! SUPPORT. Tests on small states: the form checks, the worked examples of the spec, each row once, and for every statement
with hypotheses a state and operands that meet them, at the ends of their ranges. -/

namespace Sys2Proof.Tests

open Sys2Proof.Machine

set_option Elab.async false

/-! ## Form checks: an ill-formed term for each check, and a well-formed one -/

/-- A SYNC with tag 7 on the tether. -/
def syncFrame : List Byte := frame 0x08 0x07 []

theorem test_wf_message : (Instr.acceptedMessage syncFrame).wf = true := by decide +kernel
theorem test_ill_formed_message_without_sync : (Instr.acceptedMessage (syncFrame.drop 1)).wf = false := by decide +kernel
theorem test_ill_formed_message_cut : (Instr.acceptedMessage (syncFrame.dropLast)).wf = false := by decide +kernel
theorem test_ill_formed_message_too_long :
    (Instr.acceptedMessage ([0xA5, 0x5A, 0x08, 0x07, 0x01, 0x10] ++ List.replicate 4099 0)).wf = false := by
  decide +kernel
theorem test_wf_unknown : (Instr.unknownCommand 0 0x12).wf = true := by decide
theorem test_ill_formed_unknown : (Instr.unknownCommand 0 0x11).wf = false := by decide
theorem test_ill_formed_table_write : (Instr.tableWrite 0 1 0 (List.replicate 2047 0)).wf = false := by decide +kernel
theorem test_ill_formed_note : (Instr.note 0 (List.replicate 4097 0x20)).wf = false := by decide +kernel
theorem test_ill_formed_readout_short : (Instr.readoutCompletion (List.replicate 63 (List.replicate 64 0))).wf = false := by
  decide +kernel
theorem test_ill_formed_readout_ragged :
    (Instr.readoutCompletion (List.replicate 63 (List.replicate 64 0) ++ [List.replicate 65 0])).wf = false := by
  decide +kernel
theorem test_wf_readout : (Instr.readoutCompletion (List.replicate 64 (List.replicate 64 0))).wf = true := by
  decide +kernel
theorem test_ill_formed_roll : (Instr.rollLine [0x34, 0x30, 0x39, 0x36]).wf = false := by decide
theorem test_wf_roll : (Instr.rollLine [0x34, 0x30, 0x39, 0x35]).wf = true := by decide
theorem test_ill_formed_marker : (Instr.markerLine []).wf = false := by decide
theorem test_ill_formed_malformed : (Instr.malformedLine ⟨[⟨0x51, false⟩, ⟨0x0A, false⟩], true⟩).wf = false := by decide
theorem test_wf_malformed : (Instr.malformedLine ⟨[⟨0x0A, true⟩], true⟩).wf = true := by decide
theorem test_ill_formed_header : (Instr.headerLengthFault 1 0 4096).wf = false := by decide
theorem test_wf_header : (Instr.headerLengthFault 1 0 4097).wf = true := by decide

/-! ## Small states -/

/-- The state a step leaves. -/
def after (o : Host.Outcome State Fault Refusal) : State :=
  match o with
  | .next t => t
  | .fault _ => State.reset
  | .refused _ => State.reset

/-- The code of the reply in transmission, as a number; 0 when there is none. -/
def replyCode (s : State) : Nat :=
  match s.lnk.tx with
  | some (.reply r) => r.code.code
  | _ => 0

/-- The payload of the reply in transmission. -/
def replyPayload (s : State) : List Byte :=
  match s.lnk.tx with
  | some (.reply r) => r.payload
  | _ => []

/-- IDLE with a 64 by 64 window of the pattern source. -/
def idle : State :=
  { State.reset with
    fsq := { Fsq.reset with opState := .idle, sensorHeld := true, sensor := ⟨64, 64, 20, 50, .pattern⟩ } }

def stripOne : StripRecord := ⟨512, 0, 1, 4, 400, 0, 12, 0⟩

/-- An exposure record of a kind. -/
def record (kind : FrameKind) : ExposureRecord := ⟨1, kind, 64, 64, .pattern, 50, List.replicate 8 0, 0, true, 0⟩

def emptyFrame : Frame := ⟨record .stream, 1000, []⟩

/-- STREAMING, ready to be filled. -/
def streaming : State :=
  { idle with
    fsq := { idle.fsq with opState := .streaming, timer := some 0 }
    blk := { Blk.reset with calValid := true }
    odo := { idle.odo with level := .go }
    ilc := { Ilc.reset with loop := .seeking, drives := List.replicate 8 256 }
    strip := ⟨true, stripOne⟩
    tbu := { Tbu.reset with profile := { Tbu.reset.profile with gen := 1 } } }

/-- STREAMING with a READY frame in buffer 0. -/
def ready : State :=
  { streaming with
    fsq := { streaming.fsq with buffers := ⟨.ready emptyFrame, .free, .free⟩, readyOrder := [.b0] } }

/-- A small render context, its centre outside the window: every pixel is clipped. -/
def context : RenderContext :=
  ⟨1, 1000, 0, true, 64, 64, 0, .forward, 512, 12, 0, 0, 1, 0, -16, -16, 0, 0, false, List.replicate 8 4096, .seeking,
    [], [], 1, 0⟩

/-- STREAMING with a render in flight, whose row list is `rows`. -/
def rendering (rows : List RowItem) : State :=
  { streaming with
    fsq := { streaming.fsq with buffers := ⟨.rendering emptyFrame, .free, .free⟩ }
    geo := .render ⟨.b0, context, rows, 0, List.replicate 8 ⟨0, 0, 0⟩⟩ }

/-- IDLE with a HELD frame. -/
def holding : State :=
  { idle with
    fsq := { idle.fsq with buffers := ⟨.held ⟨record .hold, 5, []⟩, .free, .free⟩ }, strip := ⟨true, stripOne⟩ }

/-- IDLE with a trial render of the strip rows 0 and 1. -/
def inTrial : State := { holding with geo := .trial ⟨.b0, context, [0, 1], 0⟩ }

/-- An exposure in flight. -/
def exposingState (op : OpState) (kind : FrameKind) (phase : ExposurePhase) : State :=
  { idle with
    fsq := { idle.fsq with opState := op, buffers := ⟨.exposing (record kind) phase, .free, .free⟩ } }

/-! ## Each command once -/

theorem test_unknown : replyCode (after (exec (.unknownCommand 7 0x12) idle)) = 0xF6 := by decide +kernel
theorem test_identify : replyPayload (after (exec (.identify 7 0) idle)) = [0, 0x45, 0x5A, 0x41, 0x46, 0x4F, 0x52, 3] := by
  decide +kernel
theorem test_status_length : (replyPayload (after (exec (.status 7) idle))).length = 622 := by decide +kernel
theorem test_sensor_clamped :
    let t := after (exec (.sensorRecord 7 ⟨64, 1600, 19, 10001, 0⟩) State.reset)
    replyCode t = 0xF1 ∧ t.fsq.sensor = ⟨64, 1600, 20, 10000, .sensor⟩ ∧ t.fsq.opState = .idle := by decide +kernel
theorem test_sensor_bad : replyCode (after (exec (.sensorRecord 7 ⟨63, 1600, 20, 50, 0⟩) State.reset)) = 0xF2 := by
  decide +kernel
/-- 1.7, the first record of the worked example. -/
theorem test_strip_example :
    let t := after (exec (.stripRecord 7 ⟨2048, 100, 200, 4, 8, 400, 5000, 5000⟩) { idle with strip := ⟨true, ⟨1024, 120, 183, 4, 400, 0, 12, 0⟩⟩ })
    replyCode t = 0xF1 ∧ t.strip.record = ⟨2048, 100, 200, 4, 400, 904, 8, 4095⟩ := by decide +kernel
theorem test_strip_bad :
    replyCode (after (exec (.stripRecord 7 ⟨2048, 300, 200, 3, 8, 400, 5000, 5000⟩) idle)) = 0xF2 := by decide +kernel
theorem test_light_cap :
    let t := after (exec (.lightRecord 7 ⟨2048, 64, 1024, 256⟩) streaming)
    replyCode t = 0xF0 ∧ t.ilc.drives = List.replicate 8 128 := by decide +kernel
theorem test_centre :
    let t := after (exec (.centreRecord 7 ⟨0xFFFF, 512, 1, 200, 0, 256⟩) idle)
    replyCode t = 0xF1 ∧ t.bcf.centre = ⟨0, 512, true, 200, 1, 256⟩ := by decide +kernel
/-- R91: a negative field is clamped to the bottom of its range. -/
theorem test_centre_signed :
    let t := after (exec (.centreRecord 7 ⟨0, 0, 1, 0xFFFF, 0xFFFF, 0x8000⟩) idle)
    replyCode t = 0xF1 ∧ t.bcf.centre = ⟨0, 0, true, 0, 1, 0⟩ := by decide +kernel
theorem test_odometer :
    let t := after (exec (.odometerRecord 7 ⟨0xFF, 0xF000, 120⟩) idle)
    replyCode t = 0xF1 ∧ t.odo.odometer = ⟨-1, -1024, 120⟩ := by decide +kernel
theorem test_dark : (after (exec (.darkRecord 7 5) idle)).fsq.nDark = 16 := by decide +kernel
theorem test_advisory : replyCode (after (exec (.advisoryRecord 7 ⟨256, 256, 768⟩) idle)) = 0xF2 := by decide +kernel
theorem test_preview : (after (exec (.previewRecord 7 256) idle)).rws.nPrev = 255 := by decide +kernel
theorem test_preset_ends :
    (after (exec (.presetPosition 7 0x3FFFFFFF) idle)).odo.x = 2 ^ 30 - 1
    ∧ replyCode (after (exec (.presetPosition 7 0x40000000) idle)) = 0xF2 := by decide +kernel
theorem test_table_write :
    let t := after (exec (.tableWrite 7 1 64 [0x4000]) idle)
    replyCode t = 0xF1 ∧ t.tbu.profile.pending.getD 64 0 = 16383 := by decide +kernel
theorem test_table_write_beyond : replyCode (after (exec (.tableWrite 7 1 64 [0, 0]) idle)) = 0xF2 := by decide +kernel
theorem test_table_read :
    replyPayload (after (exec (.tableRead 7 2 1 543 1) idle)) = [2, 1, 0x1F, 0x02, 1, 0, 0, 0, 0, 0, 0, 0, 0, 0] := by
  decide +kernel
theorem test_commit_at_once : (after (exec (.commit 7 1 0) idle)).tbu.profile.gen = 1 := by decide +kernel
theorem test_commit_stale :
    replyPayload (after (exec (.commit 7 1 0) streaming)) = [1, 0] := by decide +kernel
theorem test_sync : replyPayload (after (exec (.sync 7) streaming)) = [1, 0, 0, 0, 0, 0] := by decide +kernel
theorem test_calibrate : (after (exec (.calibrate 7) idle)).fsq.opState = .calibrating := by decide +kernel
theorem test_start :
    let s : State := { streaming with fsq := idle.fsq, ilc := Ilc.reset, odo := idle.odo }
    let t := after (exec (.start 7) s)
    t.fsq.opState = .streaming ∧ t.ilc.loop = .seeking ∧ t.ilc.drives = List.replicate 8 256 ∧ t.odo.level = .go := by
  decide +kernel
theorem test_start_without_strip : replyPayload (after (exec (.start 7) idle)) = [1] := by decide +kernel
theorem test_stop_discards :
    let t := after (exec (.stop 7) ready)
    t.fsq.opState = .idle ∧ t.fsq.discardCount = 1 ∧ t.lnk.controlQueue = [.event (.stopped 1 0 false)] := by
  decide +kernel
theorem test_relight_counts_stale : (after (exec (.relight 7) ready)).ilc.stale = 1 := by decide +kernel
theorem test_hold_in_idle : (after (exec (.hold 7) idle)).fsq.buffers.holdInFlight = true := by decide +kernel
theorem test_hold_in_streaming : (after (exec (.hold 7) streaming)).fsq.holdMark = true := by decide +kernel
theorem test_release : (after (exec (.release 7) holding)).fsq.buffers.b0 = .free := by decide +kernel
theorem test_rerender : (after (exec (.rerender 7) holding)).geo.inTrial = true := by decide +kernel
theorem test_note_ends :
    (after (exec (.note 7 (List.replicate 32 0x7E)) idle)).odo.down = some (List.replicate 32 0x7E)
    ∧ replyCode (after (exec (.note 7 (List.replicate 33 0x7E)) idle)) = 0xF2 := by decide +kernel
theorem test_reset_stream : (after (exec (.resetStream 7) ready)).fsq.buffers.b0 = .free := by decide +kernel
theorem test_reset_full : (after (exec (.resetFull 7) ready)).fsq.opState = .unconfigured := by decide +kernel

/-! ## Each event once -/

theorem test_power_on : (after (exec .powerOnReset ready)).fsq.opState = .unconfigured := by decide +kernel
theorem test_accepted_message :
    let t := after (exec (.acceptedMessage syncFrame) streaming)
    t.lnk.accepted = 1 ∧ replyPayload t = [1, 0, 0, 0, 0, 0] := by decide +kernel
theorem test_silence : (after (exec .silence (setRx .sync idle))).lnk.silences = 1 := by decide +kernel
theorem test_expiry : (after (exec .frameTimerExpiry streaming)).fsq.frameCounter = 1 := by decide +kernel
theorem test_expiry_slips :
    (after (exec .frameTimerExpiry { exposingState .streaming .stream .beforeMidpoint with
      fsq := { (exposingState .streaming .stream .beforeMidpoint).fsq with timer := some 0 } })).fsq.slipCount = 1 := by
  decide +kernel
theorem test_midpoint :
    (after (exec .exposureMidpoint (exposingState .streaming .stream .beforeMidpoint))).fsq.buffers.exposure
      = some (.b0, record .stream, .beforeEnd 0) := by decide +kernel
theorem test_exposure_end :
    (after (exec .exposureEnd (exposingState .streaming .stream (.beforeEnd 3)))).fsq.buffers.exposure
      = some (.b0, record .stream, .readout 3) := by decide +kernel
theorem test_readout_stopping :
    let t := after (exec (.readoutCompletion []) (exposingState .stopping .stream (.readout 3)))
    t.fsq.opState = .idle ∧ t.fsq.discardCount = 1 := by decide +kernel
/-- Log 33: with GEO idle the readout starts the render (R49), so that a STOP behind it has no READY frame to discard. -/
theorem test_stop_behind_readout :
    let t := after (exec (.stop 7) (after (exec (.readoutCompletion []) (exposingState .streaming .stream (.readout 0)))))
    t.fsq.buffers.anyRendering = true ∧ t.fsq.discardCount = 0 ∧ t.fsq.opState = .stopping := by decide +kernel
theorem test_row_completion :
    (after (exec .rowCompletion (rendering [.take 5 0, .meter 0]))).cvt.counts.taken = 1 := by decide +kernel
theorem test_last_row :
    let t := after (exec .rowCompletion (rendering [.meter 0]))
    t.geo = .idle ∧ t.fsq.buffers.b0 = .free ∧ t.ilc.clean = 1 := by decide +kernel
theorem test_trial_row : (after (exec .trialRowCompletion inTrial)).rws.rowCount = 1 := by decide +kernel
theorem test_reply_sent :
    let s : State := { idle with lnk := { Lnk.reset with tx := some (.reply ⟨7, .ok, [], false⟩), cmdQueue := [⟨8, .hold⟩] } }
    (after (exec .replyTransmitted s)).fsq.buffers.holdInFlight = true := by decide +kernel

/-- A GAP entry. -/
def gap : GapEntry := ⟨5, 6, 1, .forward⟩

/-- One GAP entry in transmission and one behind it. -/
def sendingGap : State :=
  { streaming with
    rws := { Rws.reset with entries := [.gap gap, .gap ⟨9, 9, 2, .forward⟩], wallSending := true }
    lnk := { Lnk.reset with tx := some (.wall 0 (.gap gap)) } }

theorem test_wall_report_sent :
    let t := after (exec .wallReportTransmitted sendingGap)
    t.rws.entries.length = 1 ∧ t.rws.wallSending = true ∧ t.rws.seq = 1 := by decide +kernel

/-- A marker report in transmission. -/
def sendingMarker : State :=
  { idle with
    odo := { idle.odo with up := some ⟨[0x57], 3, 0, none⟩ }
    lnk := { Lnk.reset with tx := some (.marker ⟨[0x57], 3, 0, none⟩) } }

theorem test_marker_report_sent : (after (exec .markerReportTransmitted sendingMarker)).odo.up = none := by decide +kernel
theorem test_control_item_sent :
    (after (exec .controlItemTransmitted
      { idle with lnk := { Lnk.reset with tx := some (.control (.event (.heldReady 1))) } })).lnk.tx = none := by
  decide +kernel

/-- A preview of one tile in transmission. -/
def sendingTile : State :=
  { streaming with
    rws := { Rws.reset with preview := some ⟨1, 2, .render, 8, 8, [], 0, true⟩ }
    lnk := { Lnk.reset with tx := some (.tile ⟨1, 2, .render, 8, 8, 0, 1, []⟩) } }

theorem test_tile_sent : (after (exec .previewTileTransmitted sendingTile)).rws.preview = none := by decide +kernel

/-- 2.3, the worked example: a burst with a phase error. -/
theorem test_quadrature_example :
    let o : Odo := { idle.odo with x := 5000, odometer := ⟨-1, 0, 0⟩ }
    let o1 := o.transition true false
    let o2 := o1.transition true true
    let o3 := o2.transition false false
    let o4 := o3.transition false true
    let o5 := o4.transition false false
    [o1.x, o2.x, o3.x, o4.x, o5.x] = [4999, 4998, 4998, 4999, 4998] ∧ o5.phasePending = 1 ∧ o5.phaseRunning = 1 := by
  decide +kernel
theorem test_quadrature : (after (exec (.quadratureTransition true false) idle)).odo.x = 1 := by decide +kernel
theorem test_speed_window :
    (after (exec .speedWindowExpiry { idle with odo := { idle.odo with windowSum := 40000 } })).odo.speed = 32767 := by
  decide +kernel
theorem test_roll_line : (after (exec (.rollLine [0x30, 0x30, 0x34, 0x32]) idle)).odo.roll = 42 := by decide +kernel
/-- 2.8, the worked example's first marker. -/
theorem test_marker_line :
    let s : State :=
      { idle with odo := { idle.odo with x := 1003, odometer := ⟨1, 0, 120⟩ }, strip := ⟨true, stripOne⟩ }
    (after (exec (.markerLine [0x57, 0x31, 0x31, 0x32]) s)).odo.up = some ⟨[0x57, 0x31, 0x31, 0x32], 1003, 0, some 280⟩ := by
  decide +kernel
theorem test_q_line :
    let t := after (exec .qLine { idle with odo := { idle.odo with down := some [0x47, 0x4F] } })
    t.odo.down = none ∧ t.odo.responses = [[0x4E, 0x20, 0x47, 0x4F]] := by decide +kernel
theorem test_malformed_line :
    (after (exec (.malformedLine ⟨cleanLine [0x41, 0x20, 0x35, 0x30, 0x30, 0x30], true⟩) idle)).odo.malformed = 1 := by
  decide +kernel
/-- R22: the tail of a line that a reset has cut off is malformed, though it spells a `Q` line; the line after it is taken. -/
theorem test_cut_off_tail :
    let s := after (exec (.malformedLine ⟨[⟨0x4D, false⟩, ⟨0x20, false⟩], false⟩) idle)
    let t := after (exec .qLine (after (exec .powerOnReset s)))
    s.odo.lineBuf.length = 2 ∧ t.odo.malformed = 1 ∧ t.odo.responses = []
    ∧ (after (exec .qLine t)).odo.responses = [[0x4E]] := by decide +kernel
theorem test_port_line_sent :
    (after (exec .portLineTransmitted { idle with odo := { idle.odo with responses := [[0x4B]] } })).odo.portTx
      = some (.response [0x4B]) := by decide +kernel
theorem test_advisory_repeat :
    (after (exec .advisoryRepeatExpiry idle)).odo.advisoryDue = true := by decide +kernel
theorem test_header_length_fault : (after (exec (.headerLengthFault 1 0 4097) idle)).lnk.lengthFaults = 1 := by
  decide +kernel

/-! ## Worked examples of the spec, and the CRC -/

/-- The check value of the CRC over the digits 1 to 9. -/
theorem test_crc : crc [0x31, 0x32, 0x33, 0x34, 0x35, 0x36, 0x37, 0x38, 0x39] = 0x29B1 := by decide +kernel

def stripEx : StripRecord := ⟨1024, 120, 183, 4, 400, 0, 12, 0⟩
def stripNeg : StripRecord := ⟨512, 0, 2, 3, 10, 0, 12, 0⟩

/-- 1.4. -/
theorem test_band_examples :
    (bandMin stripEx 1000, bandMax stripEx 1000, stripPosition stripEx 1000 470, stripPosition stripEx 1000 533)
      = (470, 533, 30720, 46848)
    ∧ (bandMin stripEx 1150, bandMax stripEx 1150, stripPosition stripEx 1150 508, stripPosition stripEx 1150 570)
      = (508, 570, 30848, 46720)
    ∧ (bandMin stripNeg (-101), bandMax stripNeg (-101), stripPosition stripNeg (-101) (-30),
        stripPosition stripNeg (-101) (-29)) = (-30, -29, 85, 341) := by decide +kernel

/-- 4.1. -/
theorem test_correction_example :
    [correctSample 6 258 1200, correctSample 6 258 3, correctSample 6 258 4095, correctSample (-30) 10 100,
      correctSample (-30) 10 4094, correctSample (-30) 10 4090] = [1134, 0, 4095, 105, 4094, 4094] := by decide

/-- 4.2. -/
theorem test_calibration_example :
    [66100, 69095, 0, 4193280].map (columnOffset 64) = [258, 270, 0, 4095] := by decide

/-- 4.4. -/
theorem test_drift_example :
    [6, 8, 10, 17].map (fun drift => driftAfter drift 20) = [8, 10, 11, 17] ∧ driftAfter 17 (-10) = 14 := by decide

def pixelContext : RenderContext :=
  { context with
    width := 1600, height := 1600, w := 1024, rollTotal := 300, cx := 12800, cy := 12792
    trims := [4096, 4608, 4096, 4096, 4096, 4096, 4096, 4096]
    profile := List.replicate 19 0 ++ [5200, 5360]
    shade := List.replicate 89 0 ++ [5000, 5100] ++ List.replicate 15 0 ++ [5200, 5300] }

/-- 5.5. -/
theorem test_pixel_example :
    renderPixel pixelContext
        (List.replicate 642 [] ++ [List.replicate 1090 0 ++ [1000, 1160], List.replicate 1090 0 ++ [980, 1100]]) 40000 100
      = ⟨1486, false, false, 1, 1341⟩ := by decide +kernel

/-- 6.5, frames 1 and 2: the offset's steps from the centroids. -/
theorem test_centre_example :
    centroid 20000 25 = 12800 ∧ centroid 19900 25 = 12736 ∧ newOffset 0 12736 12800 256 = -8
    ∧ newOffset (-8) 12720 12792 256 = -17 := by decide

def lightExample : Ilc :=
  ⟨.seeking, 1, 0, 0, [480, 600, 500, 300, 400, 470, 560, 786], [4096, 4096, 4096, 4096, 4096, 4096, 4096, 4800],
    ⟨2000, 80, 4096, 256⟩, none⟩

/-- 7.5. -/
theorem test_light_example :
    let u := lightExample.onStatistics 1
      [⟨1000, 1700000, 0⟩, ⟨1000, 1520000, 0⟩, ⟨1000, 1800000, 0⟩, ⟨1000, 3600000, 20⟩, ⟨0, 0, 0⟩, ⟨1000, 1960000, 0⟩,
        ⟨1000, 1500000, 0⟩, ⟨1000, 1500000, 0⟩] lightExample.trims
    u.1.drives = [483, 623, 494, 253, 385, 455, 584, 814]
    ∧ u.1.trims = [4276, 4419, 4209, 4096, 4096, 4116, 4437, 4965]
    ∧ u.2 = [some 1700, some 1520, some 1800, some 3600, none, some 1960, some 1500, some 1758]
    ∧ u.1.loop = .seeking ∧ u.1.clean = 0 := by decide +kernel

/-- 7.2. -/
theorem test_starting_drives : (⟨2048, 64, 4096, 600⟩ : LightRecord).startDrives = List.replicate 8 512 := by decide

/-! ## A state for every hypothesis of a statement, clause by clause -/

/-- CommandsArriveAndAreTakenInOrder and every statement over `Ready`: also with seven places used. -/
theorem test_witness_ready :
    Ready State.reset ∧ Ready idle ∧ Ready streaming ∧ Ready holding
    ∧ Ready { idle with lnk := { Lnk.reset with replies := List.replicate 7 ⟨7, .ok, [], false⟩ } } := by decide +kernel

/-- Three and four commands waiting, with every reply place in use. -/
def crowded (n refusals : Nat) : State :=
  { idle with
    lnk := { Lnk.reset with
      cmdQueue := List.replicate n ⟨7, .sync⟩
      replies := List.replicate 8 ⟨7, .ok, [], false⟩ ++ List.replicate refusals ⟨7, .busy, [], true⟩ } }

theorem test_witness_deliver :
    (crowded 3 0).lnk.cmdQueue.length < 4 ∧ 8 ≤ placesUsed (crowded 3 0)
    ∧ (4 ≤ (crowded 4 0).lnk.cmdQueue.length ∧ refusalsWaiting (crowded 4 0) < 8192) := by decide +kernel

theorem test_witness_refusal_list_ends :
    refusalsWaiting (crowded 4 8191) = 8191 ∧ refusalsWaiting (crowded 4 8192) = 8192 := by
  have h (n : Nat) : refusalsWaiting (crowded 4 n) = n := by
    show (((List.replicate 8 _ ++ List.replicate n _).filter _).length) = n
    rw [List.filter_append, List.length_append, List.filter_replicate_of_neg (by decide),
      List.filter_replicate_of_pos rfl, List.length_replicate]
    exact Nat.zero_add n
  exact ⟨h 8191, h 8192⟩

theorem test_witness_take :
    (∃ w rest, (crowded 1 0).lnk.cmdQueue = w :: rest ∧ 8 ≤ placesUsed (crowded 1 0))
    ∧ (let s : State := { idle with lnk := { Lnk.reset with cmdQueue := [⟨7, .sync⟩] } }
      s.lnk.cmdQueue = [⟨7, .sync⟩] ∧ placesUsed s < 8)
    ∧ idle.lnk.cmdQueue = [] := ⟨⟨_, _, rfl, by decide +kernel⟩, by decide +kernel, rfl⟩

theorem test_witness_message_lengths :
    State.reset.lnk.rx = .hunt ∧ ([] : List Byte).length ≤ 4096 ∧ (List.replicate 4096 (0 : Byte)).length ≤ 4096 := by
  exact ⟨rfl, Nat.zero_le _, by rw [List.length_replicate]⟩

/-- A lone 0xA5, and one before another byte, hold no sync pair; a message behind them is accepted. -/
theorem test_witness_noise :
    (∀ front behind : List Byte, [0xA5, 0x00, 0xA5] ≠ front ++ 0xA5 :: 0x5A :: behind)
    ∧ (after (exec (.acceptedMessage ([0xA5, 0x00, 0xA5] ++ syncFrame)) idle)).lnk.accepted = 1 := by
  refine ⟨fun front behind h => ?_, by decide +kernel⟩
  rcases front with _ | ⟨a, _ | ⟨b, _ | ⟨c, rest⟩⟩⟩ <;> simp at h

/-- The ends of the lengths that the layouts allow, and what stands just beyond them. -/
theorem test_payload_lengths :
    parseCommand 0x01 [] = .malformed ∧ parseCommand 0x08 [0] = .malformed
    ∧ parseCommand 0x05 [1, 0, 0, 0, 9] = .malformed ∧ parseCommand 0x05 [1, 7, 0, 0, 9, 0] = .tableWrite 1 0 [9]
    ∧ parseCommand 0x05 (List.replicate 2052 0) = .tableWrite 0 0 (List.replicate 1024 0)
    ∧ parseCommand 0x05 (List.replicate 2053 0) = .malformed ∧ parseCommand 0x05 (List.replicate 2054 0) = .malformed
    ∧ parseCommand 0x10 [] = .malformed ∧ parseCommand 0x10 (List.replicate 33 0x20) = .malformed
    ∧ parseCommand 0x11 [1] = .resetFull ∧ parseCommand 0x11 [2] = .malformed ∧ parseCommand 0x11 [0, 0] = .malformed
    ∧ parseCommand 0x03 [] = .malformed ∧ parseCommand 0x03 [9, 0, 0] = .malformed ∧ parseCommand 0x03 [6, 0] = .malformed
    ∧ parseCommand 0x03 [6, 16, 0] = .dark 16
    ∧ parseCommand 0 [] = .unknown 0 ∧ parseCommand 0x12 [] = .unknown 0x12 := by decide +kernel

/-- A STRIP record on the tether, byte by byte (R189). -/
theorem test_strip_payload :
    encodeCommand (.strip ⟨1024, 120, 183, 4, 12, -400, 5, 6⟩)
      = (0x03, [2, 0x00, 0x04, 120, 0, 183, 0, 4, 12, 0x70, 0xFE, 0xFF, 0xFF, 5, 0, 6, 0]) := by decide +kernel

theorem test_witness_fits :
    fitsMessage (.tableWrite 1 0 [0]) = true ∧ fitsMessage (.note [0x20]) = true ∧ fitsMessage (.unknown 0) = true
    ∧ fitsMessage (.unknown 0x12) = true ∧ fitsMessage .sync = true
    ∧ fitsMessage (.tableWrite 1 0 (List.replicate 1024 0)) = true
    ∧ fitsMessage (.note (List.replicate 32 0x20)) = true := by decide +kernel

theorem test_witness_discards :
    (0 : Byte) ++ (0 : Byte) ≠ crc (covered 0x08 0x07 []) ∧ (setRx .sync idle).lnk.rx ≠ .hunt
    ∧ 4096 < (4097 : Half).toNat ∧ 4096 < (65535 : Half).toNat := by decide +kernel

theorem test_witness_sectors : SectorsComplete streaming := by
  refine ⟨rfl, rfl, rfl, ?_, ?_, trivial⟩
  · intro b hb r hr
    fin_cases hb <;> exact absurd (show none = some r from hr) (by simp)
  · intro u hu; cases hu

theorem test_witness_tables :
    tableOf 0 = none ∧ tableOf 4 = none ∧ tableOf 1 = some .profile ∧ tableOf 2 = some .shade
    ∧ tableOf 3 = some .column := by decide

/-- IDLE with an armed PROFILE commit and a parked SYNC. -/
def armed (expected : Nat) : State :=
  { idle with tbu := { Tbu.reset with profile := { Tbu.reset.profile with armed := some expected }, parked := some 7 } }

theorem test_witness_commits :
    ((armed 0).tbu.get .profile).armed = some ((armed 0).tbu.get .profile).gen
    ∧ ((armed 5).tbu.get .profile).armed = some 5 ∧ (idle.tbu.get .profile).armed = none
    ∧ (armed 0).tbu.parked = some 7 ∧ (armed 0).fsq.opState ≠ .streaming
    ∧ (armed 0).fsq.buffers.anyExposing = false
    ∧ (exposingState .idle .hold .beforeMidpoint).fsq.buffers.anyExposing = true
    ∧ (armed 0).tbu.profile.armed = some (armed 0).tbu.profile.gen
    ∧ streaming.fsq.opState = .streaming := by decide +kernel

/-- The second check of the application fails: cancelled, and the parked SYNC answered. -/
theorem test_commit_cancelled :
    let t := applyCommit .profile .atOnce (armed 5)
    t.tbu.profile.gen = 0 ∧ t.lnk.controlQueue = [.event (.commitCancelled .profile 5 0)] ∧ t.lnk.replies.length = 1 := by
  decide +kernel

theorem test_witness_stop_test :
    let s : State := { idle with fsq := { idle.fsq with opState := .stopping } }
    s.fsq.opState = .stopping ∧ s.fsq.buffers.anyExposing = false ∧ s.fsq.buffers.anyRendering = false
    ∧ idle.fsq.opState ≠ .stopping
    ∧ (exposingState .stopping .stream .beforeMidpoint).fsq.buffers.anyExposing = true
    ∧ (rendering []).fsq.buffers.anyRendering = true := by decide +kernel

theorem test_witness_held :
    Ready holding ∧ holding.fsq.opState ≠ .unconfigured ∧ State.reset.fsq.opState = .unconfigured
    ∧ holding.fsq.opState = .idle ∧ holding.geo.inTrial = false ∧ holding.fsq.buffers.holdInFlight = false
    ∧ (∃ i f, holding.fsq.buffers.heldFrame = some (i, f)) ∧ idle.fsq.buffers.heldFrame = none
    ∧ Ready inTrial ∧ inTrial.geo.inTrial = true
    ∧ (exposingState .idle .hold .beforeMidpoint).fsq.buffers.holdInFlight = true := by
  refine ⟨by decide +kernel, by decide, by decide, rfl, rfl, by decide +kernel, ⟨_, _, rfl⟩, by decide +kernel,
    by decide +kernel, rfl, by decide +kernel⟩

theorem test_witness_timer : idle.fsq.timer = none ∧ streaming.fsq.timer ≠ none := by decide

theorem test_witness_exposure :
    (exposingState .streaming .stream .beforeMidpoint).fsq.buffers.exposure = some (.b0, record .stream, .beforeMidpoint)
    ∧ (exposingState .streaming .stream (.beforeEnd 3)).fsq.buffers.exposure = some (.b0, record .stream, .beforeEnd 3)
    ∧ (exposingState .idle .hold (.readout 3)).fsq.buffers.exposure = some (.b0, record .hold, .readout 3)
    ∧ (exposingState .calibrating .calibration (.readout 3)).fsq.buffers.exposure
      = some (.b0, record .calibration, .readout 3)
    ∧ (record .hold).kind ≠ .calibration
    ∧ idle.fsq.buffers.exposure = none ∧ idle.odo.odometer.step = 0
    ∧ (after (exec (.odometerRecord 7 ⟨1, 5, 0⟩) idle)).odo.odometer.step ≠ 0 := by decide +kernel

/-- The synthetic step moves X at an exposure start, into its upper bound. -/
theorem test_synthetic_step :
    let s : State := { idle with odo := { idle.odo with x := 2 ^ 30 - 3, odometer := ⟨1, 5, 0⟩ } }
    (startExposure .hold .b0 s).odo.x = 2 ^ 30 - 1 ∧ (startExposure .hold .b0 s).odo.windowSum = 2 := by decide +kernel

theorem test_witness_readouts :
    (∀ kind, (exposingState .streaming kind (.readout 3)).fsq.buffers.exposure = some (.b0, record kind, .readout 3))
    ∧ (record .stream).kind = .stream ∧ (record .dark).kind = .dark ∧ (record .hold).kind = .hold
    ∧ (record .calibration).kind = .calibration ∧ idle.blk.calFrames ≠ 15
    ∧ ({ idle.blk with calFrames := 15 } : Blk).calFrames = 15 :=
  ⟨fun _ => rfl, rfl, rfl, rfl, rfl, by decide, rfl⟩

/-- The sixteenth readout of a calibration ends it: the pattern of frame 1 in a 64 by 64 window. -/
theorem test_calibration_ends :
    let s := exposingState .calibrating .calibration (.readout 3)
    let t := after (exec (.readoutCompletion []) { s with blk := { s.blk with calFrames := 15 } })
    t.fsq.opState = .idle ∧ t.blk.calValid = true ∧ t.tbu.column.gen = 1
    ∧ t.tbu.column.active.getD 63 0 = (4 * (64 * 64 + 32 * 63) + 8 * 64) / (16 * 64) := by decide +kernel

theorem test_witness_samples :
    (record .stream).width ≤ State.reset.tbu.column.active.length ∧ 0 < (record .stream).width
    ∧ 63 < (record .stream).width ∧ 63 < (record .stream).height ∧ (record .stream).source = .pattern
    ∧ ({ record .stream with source := .sensor } : ExposureRecord).source = .sensor := by
  refine ⟨?_, by decide, by decide, by decide, rfl, rfl⟩
  show 64 ≤ (List.replicate 1600 0).length
  rw [List.length_replicate]; decide

theorem test_witness_dark_measure :
    darkMeasure [8] [[4095], [4095]] = none ∧ darkMeasure [8] [[10], [4095]] = some 32
    ∧ (∀ row ∈ [[4095], [4095]], ∀ r ∈ row, 4095 ≤ r) := by decide

theorem test_witness_calibration :
    State.reset.blk.colSums.length = 1600 ∧ State.reset.tbu.column.active.length = 1600
    ∧ (record .calibration).width ≤ 1600 ∧ 63 < (record .calibration).width ∧ (record .calibration).width ≤ 64
    ∧ 0 < (record .calibration).width :=
  ⟨List.length_replicate .., List.length_replicate .., by decide, by decide, by decide, by decide⟩

/-- R60: a readout of two rows of two samples, a saturated one among them, over three columns. -/
theorem test_accumulate :
    let b : Blk := { Blk.reset with colSums := [1, 2, 3], calSaturated := 5 }
    (∀ row ∈ [[10, 4095], [20, 30]], row.length ≤ b.colSums.length)
    ∧ (b.accumulate [[10, 4095], [20, 30]]).colSums = [31, 4127, 3]
    ∧ (b.accumulate [[10, 4095], [20, 30]]).calSaturated = 6 := by decide +kernel

theorem test_witness_render_start :
    ready.fsq.opState = .streaming ∧ ready.geo = .idle ∧ ready.fsq.readyOrder = [.b0]
    ∧ ready.fsq.buffers.get .b0 = .ready emptyFrame
    ∧ idle.fsq.opState ≠ .streaming ∧ (rendering []).geo ≠ .idle ∧ streaming.fsq.readyOrder = [] := by decide +kernel

/-- A render start with an empty ring: the window base, the span and the coverage term. -/
theorem test_render_start :
    let t := tryRenderStart ready
    t.cvt.wb = -1698 ∧ t.cvt.span = some (350, 351)
    ∧ t.odo.coverageTerm = .go := by decide +kernel

theorem test_witness_preview :
    Rws.reset.nPrev = 0
    ∧ (let r : Rws := { Rws.reset with nPrev := 2 }; r.previewCounter + 1 < r.nPrev)
    ∧ (let r : Rws := { Rws.reset with nPrev := 1 }; 0 < r.nPrev ∧ r.nPrev ≤ r.previewCounter + 1) := by decide

/-- An 8 by 16 frame: two lines of one value. -/
def previewFrame : Frame :=
  ⟨{ record .stream with width := 8, height := 16 }, 0,
    List.replicate 8 (List.replicate 8 160) ++ List.replicate 8 (List.replicate 8 4095)⟩

theorem test_witness_preview_frame :
    previewFrame.samples.length = previewFrame.record.height
    ∧ (∀ row ∈ previewFrame.samples, row.length = previewFrame.record.width)
    ∧ (makePreview previewFrame .render).lines = [[10], [255]] := by decide

theorem test_witness_band :
    1 ≤ stripEx.p ∧ stripEx.b0 ≤ stripEx.b1 ∧ (1000 + stripEx.z0) % stripEx.p = 0 ∧ (1150 + stripEx.z0) % stripEx.p ≠ 0
    ∧ bandMin stripEx 1000 ≤ 470 ∧ (533 : Int) ≤ bandMax stripEx 1000
    ∧ ((511 : Int) ≤ 0 + 511 ∧ (0 : Int) ≤ 511) := by decide +kernel

/-- A tracker that has seen rows 0 to 9: FIRM, but for rows 4 and 5. -/
def tracker : Cvt :=
  { Cvt.reset with
    ring := (List.replicate 4 ⟨.firm, false⟩ ++ [⟨.unseen, false⟩, ⟨.soft, false⟩] ++ List.replicate 4 ⟨.firm, false⟩)
      ++ List.replicate 4086 ⟨.unseen, false⟩
    span := some (0, 9), ever := some (0, 9), xprev := some 0 }

/-- R11: rows on the strip rows and between them, the half rounded up. -/
theorem test_strip_positions :
    stripPosition stripEx 1000 470 = 30720 ∧ stripPosition stripEx 1002 471 = 30848
    ∧ stripPosition ⟨512, 0, 2, 64, 0, 0, 12, 0⟩ 63 1 = 4 ∧ stripPosition ⟨512, 0, 511, 1, 0, 0, 12, 0⟩ 0 511 = 130816 := by
  decide +kernel

/-- R124: the empty span; the band at each end of the window; the band one row, and a whole band, beyond it. -/
theorem test_placed_base :
    Cvt.reset.span = none ∧ tracker.span ≠ none
    ∧ placedBase Cvt.reset 470 533 = -1578 ∧ placedBase tracker 0 511 = 0 ∧ placedBase tracker 3584 4095 = 0
    ∧ placedBase tracker 3585 4096 = 1 ∧ placedBase tracker (-1) 510 = -1
    ∧ placedBase tracker (-512) (-513) = -512 ∧ placedBase tracker 4097 4096 = 1 := by decide +kernel

theorem test_witness_gaps :
    tracker.ring.length = 4096 ∧ bandMin stripOne 0 ≤ bandMax stripOne 0 + 1 :=
  ⟨by
    show ((_ ++ List.replicate 4086 (⟨.unseen, false⟩ : RingEntry)).length) = 4096
    rw [List.length_append, List.length_replicate]; rfl, by decide⟩

theorem test_witness_travel :
    (tracker.renderStart stripOne 4).cvt.prevDir = .forward ∧ (tracker.renderStart stripOne (-4)).cvt.prevDir = .reverse := by
  decide +kernel

/-- The band lies at rows 100 and 101: row 4 and rows 10 to 99 are declared, in two runs. -/
theorem test_gaps_declared :
    (tracker.renderStart stripOne 0).ranges = [(4, 4), (10, 99)]
    ∧ (tracker.renderStart stripOne 0).cvt.counts.gapRows = 91 := by decide +kernel

/-- A take row's result at wall row `n`. -/
def takeRow (n : Int) (unsettled : Bool) : RowEntry := rowResult context .take n 0 unsettled []

theorem test_witness_decisions :
    tracker.inWindow 0 = true ∧ tracker.inWindow 4095 = true
    ∧ (tracker.entryOf (takeRow 4 false).row).state = .unseen ∧ (tracker.entryOf (takeRow 5 false).row).state = .soft
    ∧ (({ tracker with ring := [⟨.gap, true⟩] } : Cvt).entryOf (takeRow 0 false).row).state = .gap
    ∧ ((takeRow 5 false).flags.unsettled || (takeRow 5 false).flags.saturated) = false
    ∧ ((takeRow 5 true).flags.unsettled || (takeRow 5 true).flags.saturated) = true := by decide +kernel

theorem test_decisions :
    ((tracker.decide (takeRow 4 true) true).1.entryOf 4).state = .soft
    ∧ (tracker.decide (takeRow 4 true) false).1.counts.skips = 1
    ∧ ((tracker.decide (takeRow 5 false) true).1.entryOf 5).state = .firm
    ∧ (tracker.decide (takeRow 5 true) true).1.counts.rejected = 1 := by decide +kernel

theorem test_witness_row_completion :
    let s := rendering [.take 5 0, .meter 0]
    (∃ w, s.geo = .render w ∧ s.fsq.buffers.get w.buffer = .rendering emptyFrame ∧ w.rows[w.done]? = some (.take 5 0)
      ∧ w.done + 1 < w.rows.length)
    ∧ (∃ w, (rendering [.meter 0]).geo = .render w
      ∧ (rendering [.meter 0]).fsq.buffers.get w.buffer = .rendering emptyFrame
      ∧ w.rows[w.done]? = some (.meter 0) ∧ w.rows.length = w.done + 1)
    ∧ (s.cvt.decide (takeRow 5 true) true).2.isSome = true ∧ (s.cvt.decide (takeRow 5 true) false).2 = none :=
  ⟨⟨_, rfl, rfl, rfl, by decide⟩, ⟨_, rfl, rfl, rfl, rfl⟩, by decide +kernel, by decide +kernel⟩

/-- A frame summary. -/
def someSummary : Summary :=
  ⟨1, 0, .forward, 0, FrameCounts.zero, true, .seeking, [], [], [], .go, 0, 0, 0, false, 0, true, 0, 0, 0⟩

theorem test_witness_control_queue :
    let full (x : ControlItem) : Lnk := { Lnk.reset with controlQueue := List.replicate 31 (.event (.heldReady 1)) ++ [x] }
    32 ≤ (full (.summary someSummary)).controlQueue.length
    ∧ ((full (.summary someSummary)).raise (.event (.heldReady 2))).summariesDropped = 1
    ∧ ((full (.event (.heldReady 1))).raise (.event (.heldReady 2))).eventsDropped = 1
    ∧ ((full (.event (.heldReady 1))).raise (.summary someSummary)).summariesDropped = 1 := by decide +kernel

theorem test_witness_pixels :
    insideWindow 1600 1600 17446 10272 = true ∧ insideWindow 64 64 (-1) 0 = false
    ∧ insideWindow 64 64 (62 * 16 + 15) (62 * 16 + 15) = true ∧ insideWindow 64 64 (63 * 16) 0 = false
    ∧ context.fill ≤ 4095 := by decide

/-- The ends of SectorTrimIsBlended: the last angle, a sector's centre, and trims at both ends of their range. -/
theorem test_witness_trim :
    (4095 : Nat) < 4096 ∧ (256 : Nat) = 512 * 0 + 256 ∧ (3840 : Nat) = 512 * 7 + 256
    ∧ (let trims := [4096, 16383, 4096, 16383, 4096, 16383, 4096, 16383]
      trims.length = 8 ∧ (∀ t ∈ trims, 4096 ≤ t ∧ t ≤ 16383) ∧ trimAt trims 256 = 4096 ∧ trimAt trims 768 = 16383)
    ∧ (99 * (4096 / 512) + context.rollTotal) % 4096 = 792 := by decide +kernel

/-- ReportsAndStatusFollowTheirLayouts: the shortest and the longest marker code, an even and an empty row. -/
theorem test_witness_layouts :
    ([0x21] : List Byte).length ≤ 8 ∧ (List.replicate 8 (0x7E : Byte)).length ≤ 8 ∧ ([] : List Nat).length % 2 = 0
    ∧ ([4095, 0] : List Nat).length % 2 = 0 ∧ 2 * 0 < ([4095, 0] : List Nat).length
    ∧ packPixels 12 [4095, 0] = [0xFF, 0x0F, 0x00] := by decide +kernel

theorem test_witness_statistics : 7 < (List.replicate 8 (⟨0, 0, 0⟩ : SectorStat)).length := by decide

theorem test_witness_scan :
    Bcf.reset.centre.follow = false
    ∧ (let b : Bcf := { Bcf.reset with centre := ⟨0, 0, true, 1, 1, 0⟩ }
      b.centre.follow = true ∧ (darkPlaces b emptyFrame).length = 256 ∧ b.centre.mincount ≤ 256)
    ∧ (let b : Bcf := { Bcf.reset with centre := ⟨0, 0, true, 0, 1, 0⟩ }
      (darkPlaces b emptyFrame).length < b.centre.mincount) := by decide +kernel

theorem test_witness_cap :
    ([100, 28] : List Nat).sum ≤ 128 ∧ 128 < ([100, 29] : List Nat).sum ∧ quarterStep 10 11 = 11 ∧ quarterStep 10 9 = 9 := by
  decide

theorem test_witness_illumination :
    Ilc.reset.loop = .dark ∧ lightExample.loop ≠ .dark ∧ lightExample.stale = 0 ∧ lightExample.drives.length = 8
    ∧ lightExample.trims.length = 8 ∧ 0 < (lightExample.relight 1).stale := by decide

/-- Three clean updates lock the loop, two unsettled ones unlock it. -/
theorem test_lock_counts :
    let step (i : Ilc) (sum : Nat) : Ilc := (i.onStatistics 1 (List.replicate 8 ⟨1, sum, 0⟩) (List.replicate 8 4096)).1
    let i0 : Ilc := { Ilc.reset with loop := .seeking, drives := List.replicate 8 256 }
    let i3 := step (step (step i0 2048) 2048) 2048
    i3.loop = .locked ∧ (step i3 1).loop = .locked ∧ (step (step i3 1) 1).loop = .seeking := by decide +kernel

theorem test_witness_trial :
    (∃ w, inTrial.geo = .trial w ∧ (∃ f, inTrial.fsq.buffers.get w.buffer = .held f) ∧ w.rows[w.done]? = some 0)
    ∧ inTrial.rws.rowCount < 1008 :=
  ⟨⟨_, rfl, ⟨_, rfl⟩, rfl⟩, by decide⟩

/-- The last trial row raises TRIAL_DONE. -/
theorem test_trial_done :
    let t := after (exec .trialRowCompletion (after (exec .trialRowCompletion inTrial)))
    t.geo = .idle ∧ t.rws.rowCount = 2 ∧ t.lnk.controlQueue = [.event (.trialDone 1 2 1 0)] := by decide +kernel

theorem test_witness_gap_ranges :
    ({ Rws.reset with entries := [.gap gap] } : Rws).newestUnsentGap = some (0, gap)
    ∧ ({ Rws.reset with entries := [.gap gap], wallSending := true } : Rws).newestUnsentGap = none
    ∧ ((7 : Int) = gap.nLast + 1 ∧ (4 : Int) = gap.nFirst - 1) ∧ Rws.reset.entries.length < 1024
    ∧ 1024 ≤ (List.replicate 1024 (Entry.gap gap)).length := by decide +kernel

theorem test_witness_transmissions :
    (∃ seq e, sendingGap.lnk.tx = some (.wall seq e)) ∧ (∀ w k, sendingGap.geo ≠ .trialWait w k)
    ∧ (∃ m, sendingMarker.lnk.tx = some (.marker m)) ∧ (∃ k, sendingTile.lnk.tx = some (.tile k))
    ∧ (∃ p, sendingTile.rws.preview = some p ∧ p.sending = true) ∧ idle.lnk.tx = none ∧ Rws.reset.preview = none
    ∧ (after (exec (.sync 7) idle)).lnk.tx = some (.reply ⟨7, .ok, [0, 0, 0, 0, 0, 0], false⟩) :=
  ⟨⟨_, _, rfl⟩, by simp [sendingGap, streaming, idle, State.reset, State.powerOn], ⟨_, rfl⟩, ⟨_, rfl⟩, ⟨_, rfl, rfl⟩, rfl,
    rfl, by decide +kernel⟩

/-- A marker or a preview is on offer, and the downlink is free. -/
def freed (s : State) : State := { s with lnk := { s.lnk with tx := none } }

/-- A trial that waits with its row kept, the wall report of a row entry in transmission. -/
def waiting : State :=
  { inTrial with
    geo := .trialWait ⟨.b0, context, [0, 1], 0⟩ (takeRow 0 false)
    rws := { Rws.reset with entries := [.row (takeRow 1 false)], wallSending := true }
    lnk := { Lnk.reset with tx := some (.wall 0 (.row (takeRow 1 false))) } }

theorem test_waiting_trial_resumes :
    let t := after (exec .wallReportTransmitted waiting)
    t.rws.rowCount = 1 ∧ (match t.geo with | .trial w => w.done | _ => 9) = 1 := by decide +kernel

/-- R153: STATUS counts the row that waits as completed. -/
theorem test_waiting_trial_counts_its_row : waiting.geo.progress = some (1, 2, 1) := by decide +kernel

/-- Log 4: ends and completions of what is not in progress. -/
theorem test_witness_idle_events :
    (∀ r, sendingTile.lnk.tx ≠ some (.reply r)) ∧ (∀ k, sendingMarker.lnk.tx ≠ some (.tile k))
    ∧ (∀ w, idle.geo ≠ .render w) ∧ (∀ w, waiting.geo ≠ .trial w)
    ∧ (∀ i r x, idle.fsq.buffers.exposure ≠ some (i, r, .readout x))
    ∧ ({ idle with odo := { idle.odo with portTx := none } } : State).odo.portTx = none := by
  refine ⟨?_, ?_, ?_, ?_, ?_, rfl⟩ <;> intros <;> exact nofun

theorem test_witness_arbiter :
    idle.lnk.tx = none ∧ idle.lnk.replies = [] ∧ turn idle = none
    ∧ (let s : State := { idle with rws := { Rws.reset with entries := [.gap gap] } }
      s.lnk.tx = none ∧ s.lnk.replies = [] ∧ turn s = some .wall ∧ s.rws.entries = [.gap gap])
    ∧ (let s := freed sendingMarker
      s.lnk.tx = none ∧ s.lnk.replies = [] ∧ turn s = some .control ∧ s.odo.up.isSome = true)
    ∧ (let s : State := { idle with lnk := { Lnk.reset with controlQueue := [.event (.heldReady 1)] } }
      s.lnk.tx = none ∧ s.lnk.replies = [] ∧ turn s = some .control ∧ s.odo.up = none
        ∧ s.lnk.controlQueue = [.event (.heldReady 1)])
    ∧ (let s := freed sendingTile
      s.lnk.tx = none ∧ s.lnk.replies = [] ∧ turn s = some .preview ∧ s.rws.preview.isSome = true)
    ∧ (let s : State := { idle with lnk := { Lnk.reset with replies := [⟨7, .ok, [], false⟩] } }
      s.lnk.tx = none ∧ s.lnk.replies = [⟨7, .ok, [], false⟩])
    ∧ sendingTile.lnk.tx ≠ none := by decide +kernel

/-- What an idle port starts, in each case of R23. -/
theorem test_witness_port_kick :
    let o : Odo := { idle.odo with portTx := none, advisoryDue := true, responses := [[0x4B]] }
    idle.odo.portTx ≠ none ∧ o.portTx = none
    ∧ o.portKick.portTx = some (.advisory .hold) ∧ o.portKick.responses = [[0x4B]]
    ∧ ({ o with advisoryDue := false } : Odo).portKick.portTx = some (.response [0x4B])
    ∧ ({ o with advisoryDue := false } : Odo).portKick.responses = []
    ∧ ({ o with advisoryDue := false, responses := [] } : Odo).portKick.portTx = none := by decide +kernel

/-- The ends of the forms of 2.5, and what stands just beyond them. -/
theorem test_line_forms :
    rollForm [0x34, 0x30, 0x39, 0x36] = .malformed ∧ rollForm [] = .malformed ∧ rollForm (List.replicate 5 0x30) = .malformed
    ∧ rollForm [0x2F] = .malformed ∧ markerForm [] = .malformed ∧ markerForm [0x20] = .malformed
    ∧ markerForm (List.replicate 9 0x41) = .malformed
    ∧ classifyLine (cleanLine [0x41, 0x20, 0x37]) = .roll 7 ∧ classifyLine (cleanLine [0x4D, 0x20, 0x57]) = .marker [0x57]
    ∧ classifyLine (cleanLine [0x51]) = .query ∧ classifyLine (cleanLine [0x51, 0x20]) = .malformed
    ∧ classifyLine (cleanLine [0x41, 0x37]) = .malformed ∧ classifyLine [⟨0x51, false⟩] = .malformed
    ∧ classifyLine [⟨0x51, false⟩, ⟨0x0A, true⟩, ⟨0x51, false⟩, ⟨0x0D, false⟩] = .malformed := by decide +kernel

theorem test_witness_port :
    idle.pending = [] ∧ idle.odo.portTx = some (.advisory .hold) ∧ idle.odo.lineBuf = [] ∧ idle.odo.lineCut = false
    ∧ ({ idle.odo with lineCut := true } : Odo).lineCut = true
    ∧ rollForm [0x30] = .roll 0 ∧ rollForm [0x34, 0x30, 0x39, 0x35] = .roll 4095 ∧ markerForm [0x21] = .marker [0x21]
    ∧ markerForm (List.replicate 8 0x7E) = .marker (List.replicate 8 0x7E) ∧ classifyLine [] = .malformed
    ∧ classifyLine (List.replicate 41 ⟨0x51, false⟩ ++ [⟨0x0D, false⟩]) = .malformed := by decide +kernel

/-- A streaming part with a render in flight meets the invariants, and steps. -/
def busy : State :=
  { rendering [.meter 0] with
    pending := [.rowCompletion]
    lnk := { Lnk.reset with tx := some (.control (.event (.heldReady 1))) } }

theorem test_witness_step : ∃ t, step busy = .next t := ⟨_, rfl⟩

theorem test_witness_invariants_of_the_queues :
    StoreWithinLimits busy ∧ QueuesWithinLimits busy ∧ MeasuresWithinBounds busy ∧ PowerWithinCap busy
    ∧ StripWithinRange busy := by decide +kernel

theorem test_witness_invariants_of_the_light : LightWithinRange busy := by
  refine ⟨⟨rfl, rfl, rfl, ?_, ?_, rfl, rfl⟩, by decide +kernel⟩
  · intro b hb r hr
    fin_cases hb
    · have e : some (record .stream) = some r := hr
      cases e; rfl
    · exact absurd (show none = some r from hr) (by simp)
    · exact absurd (show none = some r from hr) (by simp)
  · intro u hu; cases hu

theorem test_witness_invariants_of_the_state : StateCoherent busy ∧ CommitsDoNotLinger busy := by decide +kernel

theorem test_witness_invariants_of_the_buffers : BuffersCoherent busy := by
  refine ⟨by decide +kernel, by decide +kernel, by decide +kernel, ?_, ⟨by decide +kernel, by decide⟩, by decide,
    by decide +kernel, (by intro h; cases h), (by intro h; cases h), (by intro h; cases h)⟩
  intro b hb
  fin_cases hb
  · exact Or.inl rfl
  · trivial
  · trivial

theorem test_witness_invariants_of_the_tables : TablesWellFormed busy :=
  ⟨by decide +kernel, by decide +kernel, by decide +kernel, List.length_replicate ..⟩

theorem test_witness_invariants_of_coverage : CoverageCoherent busy ∧ TakesAccounted busy := by
  refine ⟨⟨List.length_replicate .., (by intro r h; cases h), (by intro r h; cases h), by decide⟩, ?_⟩
  exact ⟨rfl, by decide +kernel, (by intro p h; cases h), rfl⟩

end Sys2Proof.Tests
end

/-! # Wall coordinates, full resets, and the ranges every step keeps -/

namespace Sys2Proof.Machine

/-! ## Commands that are answered at once (R175, R177) -/

/-! A command row whose command is taken at once: the effect of its owning rule, replied to. -/

theorem exec_stripRecord_at_once (tag : Byte) (r : StripFields) (s : State) (h : Ready s) :
    exec (.stripRecord tag r) s
      = .next (replied tag (cmdStrip r s).2.code (cmdStrip r s).2.payload (cmdStrip r s).1) :=
  congrArg Host.Outcome.next (arrive_at_once tag (.strip r) s h)

theorem exec_rerender_at_once (tag : Byte) (s : State) (h : Ready s) :
    exec (.rerender tag) s = .next (replied tag (cmdRerender s).2.code (cmdRerender s).2.payload (cmdRerender s).1) :=
  congrArg Host.Outcome.next (arrive_at_once tag .rerender s h)

theorem exec_resetFull_at_once (tag : Byte) (s : State) (h : Ready s) :
    exec (.resetFull tag) s = .next (replied tag .ok [] (fullReset s)) :=
  congrArg Host.Outcome.next (arrive_at_once tag .resetFull s h)

/-! ## The STRIP record (R5 to R9) -/

/-- The structural check of R6, field by field as the host sends them. -/
theorem stripBad_eq_false_iff (r : StripFields) :
    stripBad r = false ↔
      (r.w = 512 ∨ r.w = 1024 ∨ r.w = 2048) ∧ r.b0.toNat ≤ r.b1.toNat ∧ r.b1.toNat ≤ 511
        ∧ 1 ≤ r.p.toNat ∧ r.p.toNat ≤ 64 ∧ 0 ≤ r.z0.toInt ∧ r.z0.toInt ≤ 65535 ∧ (r.depth = 12 ∨ r.depth = 8) := by
  simp only [← BitVec.toNat_inj]
  simp [stripBad]
  omega

/-- A record whose structure passes comes into force, and clears coverage when R8 says so. -/
theorem cmdStrip_accepted (r : StripFields) (s : State) (idle : s.fsq.opState = .idle) (good : stripBad r = false) :
    cmdStrip r s =
      ({ s with
          strip := ⟨true, stripRecordOf r⟩
          cvt := if stripClears s.strip (stripRecordOf r) then s.cvt.clear else s.cvt },
        .okOrClamped (decide (4095 < r.fill.toNat))) := by
  simp [cmdStrip, idle, good]

theorem stripClears_iff (old : Strip) (n : StripRecord) :
    stripClears old n = true ↔ old.held = false ∨ n.p ≠ old.record.p ∨ n.z0 ≠ old.record.z0 := by
  simp [stripClears, or_assoc]

/-- Settles O9, by the three answers of the STRIP record: refused, ill-formed, installed. -/
theorem stripRecordIsCheckedAndInstalled : Obligations.StripRecordIsCheckedAndInstalled := by
  intro tag r s ready
  dsimp only
  rw [exec_stripRecord_at_once tag r s ready]
  by_cases idle : s.fsq.opState = .idle
  case neg => simp [cmdStrip, idle, Answer.state, leBytes]
  case pos =>
    rw [if_neg (not_not_intro idle)]
    cases bad : stripBad r with
    | true =>
      rw [if_pos fun good => Bool.false_ne_true (((stripBad_eq_false_iff r).mpr good).symm.trans bad)]
      simp [cmdStrip, idle, bad, Answer.bad]
    | false =>
      rw [if_neg (not_not_intro ((stripBad_eq_false_iff r).mp bad)), cmdStrip_accepted r s idle bad]
      simp only [stripClears_iff, Answer.okOrClamped, decide_eq_true_eq]
      rfl

/-! ## RERENDER (R152) -/

/-- A trial start fills an empty preview queue, and otherwise counts a skip, while N_prev is above 0 (R155, R156). -/
theorem Rws.previewAtTrial_eq (r : Rws) (f : Frame) :
    r.previewAtTrial f =
      if r.nPrev = 0 then r
      else if r.preview = none then { r with preview := some (makePreview f .trial) }
      else { r with skipCount := min (r.skipCount + 1) 65535 } := by
  unfold Rws.previewAtTrial Rws.previewDue
  cases r.preview <;> rfl

/-- Settles O22, by the branches of R152 in their order. -/
theorem rerenderStartsATrial : Obligations.RerenderStartsATrial := by
  intro tag s ready
  rw [exec_rerender_at_once tag s ready]
  unfold cmdRerender
  refine ⟨fun notIdle => ?_, fun idle busy => ?_, fun idle noTrial noHold noHeld => ?_,
    fun idle noTrial noHold i f held => ?_⟩
  · rw [if_pos notIdle]; rfl
  · rcases busy with busy | busy <;> simp [idle, busy, Answer.busy]
  · simp only [idle, noTrial, noHold, noHeld]; rfl
  · simp only [idle, noTrial, noHold, held]
    cases strip : s.strip.held with
    | false => rfl
    | true => rw [Rws.previewAtTrial_eq]; rfl

/-! ## Direction and advance (R12, R13) -/

/-- Settles O32, by where the frame's position lies against the previous one. -/
theorem directionAndAdvance : Obligations.DirectionAndAdvance := by
  intro xf prev
  refine ⟨rfl, rfl, fun x => ⟨fun ahead => ?_, fun behind => ?_, fun same => ?_, ?_⟩⟩
  · exact if_pos ahead
  · simp [decideDirection, behind, Int.not_lt.mpr behind.le]
  · simp [decideDirection, same]
  · exact Int.natCast_natAbs (xf - x)

/-! ## Full resets (R56, R183) -/

/-- After power-on reset nothing is on offer to the downlink, and the `V H` line occupies the port. -/
theorem settle_powerOn (lineA lineB lineCut : Bool) (freeIx : Nat) (pending : List Instr) :
    settle (State.powerOn lineA lineB lineCut freeIx pending) = State.powerOn lineA lineB lineCut freeIx pending := rfl

/-- A reply put into the part after power-on reset starts at once. -/
theorem replied_powerOn (tag : Byte) (code : ReplyCode) (payload : List Byte) (lineA lineB lineCut : Bool) (freeIx : Nat)
    (pending : List Instr) :
    let t := State.powerOn lineA lineB lineCut freeIx pending
    replied tag code payload t = { t with lnk := { t.lnk with tx := some (.reply ⟨tag, code, payload, false⟩) } } := rfl

theorem Odo.cutByReset_eq (o : Odo) : o.cutByReset = (o.lineCut || decide (o.lineBuf ≠ [])) := by
  cases h : o.lineBuf <;> simp [Odo.cutByReset, h]

/-- Settles O25: the reset state is settled but for RESET FULL's own reply, and its fields are those listed. -/
theorem fullResetsGiveThePowerOnState : Obligations.FullResetsGiveThePowerOnState := by
  refine ⟨fun s => ?_, fun _ _ _ _ _ => rfl⟩
  rw [← Odo.cutByReset_eq]
  refine ⟨congrArg Host.Outcome.next (settle_powerOn ..), fun tag ready => ?_⟩
  rw [exec_resetFull_at_once tag s ready]
  exact congrArg Host.Outcome.next (replied_powerOn ..)

/-! ## The band (R10, R11) -/

/-- A row is at or above n_min when its strip position is at least B0. -/
theorem bandMin_le_iff (r : StripRecord) (xf n : Int) (hp : 1 ≤ r.p) :
    bandMin r xf ≤ n ↔ xf + r.z0 + r.b0 * r.p ≤ n * r.p := by
  have pos : (0 : Int) < r.p := by omega
  calc bandMin r xf ≤ n ↔ (r.b0 : Int) - n ≤ -(xf + r.z0) / r.p := by unfold bandMin; omega
    _ ↔ ((r.b0 : Int) - n) * r.p ≤ -(xf + r.z0) := Int.le_ediv_iff_mul_le pos
    _ ↔ xf + r.z0 + r.b0 * r.p ≤ n * r.p := by rw [Int.sub_mul]; omega

/-- A row is at or below n_max when its strip position is at most B1. -/
theorem le_bandMax_iff (r : StripRecord) (xf n : Int) (hp : 1 ≤ r.p) :
    n ≤ bandMax r xf ↔ n * r.p ≤ xf + r.z0 + r.b1 * r.p := by
  have pos : (0 : Int) < r.p := by omega
  calc n ≤ bandMax r xf ↔ n - r.b1 ≤ (xf + r.z0) / r.p := by unfold bandMax; omega
    _ ↔ (n - r.b1) * r.p ≤ xf + r.z0 := Int.le_ediv_iff_mul_le pos
    _ ↔ n * r.p ≤ xf + r.z0 + r.b1 * r.p := by rw [Int.sub_mul]; omega

/-- The band has as many rows as B0 to B1 where the position is a multiple of the pitch. -/
theorem band_rows_of_aligned (r : StripRecord) (xf : Int) (aligned : (xf + r.z0) % r.p = 0) :
    bandMax r xf - bandMin r xf + 1 = r.b1 - r.b0 + 1 := by
  have down : -(xf + r.z0) / r.p = -((xf + r.z0) / r.p) := Int.neg_ediv_of_dvd (Int.dvd_of_emod_eq_zero aligned)
  unfold bandMax bandMin
  omega

/-- Between two multiples of the pitch the band has one row fewer. -/
theorem band_rows_of_not_aligned (r : StripRecord) (xf : Int) (hp : 1 ≤ r.p) (between : (xf + r.z0) % r.p ≠ 0) :
    bandMax r xf - bandMin r xf + 1 = (r.b1 : Int) - r.b0 := by
  have pos : (0 : Int) < r.p := by omega
  have down : -(xf + r.z0) / r.p = -((xf + r.z0) / r.p) - 1 := by
    rw [Int.neg_ediv, if_neg (mt Int.emod_eq_zero_of_dvd between), Int.sign_eq_one_of_pos pos]
  unfold bandMax bandMin
  omega

/-- The rounded strip position of a row of the band lies from 256 B0 to 256 B1 (R11). -/
theorem stripPosition_in_band (r : StripRecord) (xf n : Int) (hp : 1 ≤ r.p)
    (low : bandMin r xf ≤ n) (high : n ≤ bandMax r xf) :
    (stripPosition r xf n : Int) = ((n * r.p - xf - r.z0) * 512 + r.p) / (2 * r.p)
      ∧ 256 * r.b0 ≤ stripPosition r xf n ∧ stripPosition r xf n ≤ 256 * r.b1 := by
  have pos : (0 : Int) < 2 * r.p := by omega
  rw [bandMin_le_iff r xf n hp] at low
  rw [le_bandMax_iff r xf n hp] at high
  have least : (256 * r.b0 : Int) ≤ ((n * r.p - xf - r.z0) * 512 + r.p) / (2 * r.p) := by
    rw [Int.le_ediv_iff_mul_le pos]
    linarith
  have greatest : ((n * r.p - xf - r.z0) * 512 + r.p) / (2 * r.p) < (256 * r.b1 : Int) + 1 := by
    rw [Int.ediv_lt_iff_lt_mul pos]
    linarith
  unfold stripPosition
  omega

/-! ## The window placed over the band (R124) -/

theorem placedBase_holds_band (c : Cvt) (nMin nMax n : Int) (short : nMax ≤ nMin + 511) (low : nMin ≤ n)
    (high : n ≤ nMax) : placedBase c nMin nMax ≤ n ∧ n ≤ placedBase c nMin nMax + 4095 := by
  unfold placedBase
  dsimp only
  split_ifs <;> omega

theorem placedBase_of_empty_span (c : Cvt) (nMin nMax : Int) (short : nMax ≤ nMin + 511) (empty : c.span = none) :
    placedBase c nMin nMax = nMin - 2048 := by
  simp only [placedBase, empty, Option.isNone_none, if_true]
  rw [if_neg (show ¬ nMin - 2048 + 4095 < nMax by omega), if_neg (by omega)]

/-- With an explored span the window moves by the least distance that lets it hold the band. -/
theorem placedBase_of_span (c : Cvt) (nMin nMax : Int) (span : c.span ≠ none) :
    placedBase c nMin nMax =
      if nMin < (if c.wb + 4095 < nMax then nMax - 4095 else c.wb) then nMin
      else if c.wb + 4095 < nMax then nMax - 4095
      else c.wb := by
  simp [placedBase, span]

/-! ## The take list (R129) -/

theorem mem_rowsFromTo (lo hi n : Int) : n ∈ rowsFromTo lo hi ↔ lo ≤ n ∧ n ≤ hi := by
  simp only [rowsFromTo, List.mem_map, List.mem_range]
  constructor
  · rintro ⟨i, inside, rfl⟩; omega
  · rintro ⟨low, high⟩; exact ⟨(n - lo).toNat, by omega, by omega⟩

theorem rowsFromTo_ascending (lo hi : Int) : (rowsFromTo lo hi).Pairwise (· < ·) :=
  List.pairwise_map.mpr (List.pairwise_lt_range.imp fun h => by omega)

/-- The rows of the band still to be taken, each with its strip position, from the first to the last. -/
def Cvt.openRows (c : Cvt) (r : StripRecord) (xf : Int) : List (Int × Nat) :=
  ((rowsFromTo (bandMin r xf) (bandMax r xf)).filter (fun n => (c.entryOf n).state != .firm)).map
    (fun n => (n, stripPosition r xf n))

theorem Cvt.buildTakeList_forward (c : Cvt) (r : StripRecord) (xf : Int) :
    c.buildTakeList r xf .forward = c.openRows r xf := rfl

theorem Cvt.buildTakeList_reverse (c : Cvt) (r : StripRecord) (xf : Int) :
    c.buildTakeList r xf .reverse = (c.openRows r xf).reverse := rfl

theorem Cvt.mem_openRows (c : Cvt) (r : StripRecord) (xf n : Int) (s : Nat) :
    (n, s) ∈ c.openRows r xf ↔
      bandMin r xf ≤ n ∧ n ≤ bandMax r xf ∧ (c.entryOf n).state ≠ .firm ∧ s = stripPosition r xf n := by
  simp only [Cvt.openRows, List.mem_map, List.mem_filter, mem_rowsFromTo, bne_iff_ne, Prod.mk.injEq]
  constructor
  · rintro ⟨m, ⟨⟨low, high⟩, open_⟩, rfl, rfl⟩; exact ⟨low, high, open_, rfl⟩
  · rintro ⟨low, high, open_, rfl⟩; exact ⟨n, ⟨⟨low, high⟩, open_⟩, rfl, rfl⟩

theorem Cvt.mem_buildTakeList (c : Cvt) (r : StripRecord) (xf : Int) (travel : Travel) (p : Int × Nat) :
    p ∈ c.buildTakeList r xf travel ↔ p ∈ c.openRows r xf := by
  cases travel
  · exact Iff.rfl
  · exact List.mem_reverse

theorem Cvt.openRows_ascending (c : Cvt) (r : StripRecord) (xf : Int) :
    (c.openRows r xf).Pairwise (fun a b => a.1 < b.1) :=
  List.pairwise_map.mpr ((rowsFromTo_ascending _ _).filter _)

/-- Settles O33: the band and its strip positions, the placed window, and the take list, each from its own laws. -/
theorem bandLiesInTheWindowAndGivesTheTakeList : Obligations.BandLiesInTheWindowAndGivesTheTakeList := by
  refine ⟨fun r xf hp _ => ⟨fun n => ?_, band_rows_of_aligned r xf, band_rows_of_not_aligned r xf hp,
    fun n => stripPosition_in_band r xf n hp⟩, placedBase_holds_band, fun c nMin nMax almost short => ?_,
    fun c r xf n s travel => ?_, fun c r xf => ⟨c.openRows_ascending r xf, ?_⟩⟩
  · rw [bandMin_le_iff r xf n hp, le_bandMax_iff r xf n hp]
  · refine ⟨placedBase_of_empty_span c nMin nMax short, fun span ahead => ?_, fun span behind => ?_,
      fun span low high => ?_⟩ <;> rw [placedBase_of_span c nMin nMax span]
    · rw [if_pos ahead, if_neg (by omega)]
    · rw [if_neg (show ¬ c.wb + 4095 < nMax by omega), if_pos behind]
    · rw [if_neg (not_lt.mpr high), if_neg (not_lt.mpr low)]
  · rw [c.mem_buildTakeList, c.mem_openRows]
  · rw [Cvt.buildTakeList_reverse]
    exact List.pairwise_reverse.mpr (c.openRows_ascending r xf)

/-! ## What every step stays in -/

/-- A relation between the part before and the part after that composes, and in which every part of a step stays: the
link's bookkeeping, the commands, the events, the transmitters. Every step then stays in it (`KeptByParts.step`): the
receiver and the command queue add nothing of their own. -/
structure KeptByParts (R : State → State → Prop) : Prop where
  refl : ∀ s, R s s
  trans : ∀ {s t u}, R s t → R t u → R s u
  link : ∀ s lnk, R s { s with lnk := lnk }
  pending : ∀ s pending, R s { s with pending := pending }
  tick : ∀ s, R s (tick s)
  settle : ∀ s, R s (settle s)
  runCommand : ∀ tag c s, R s (runCommand tag c s)
  fullReset : ∀ s, R s (fullReset s)
  timerExpiry : ∀ s, R s (timerExpiry s)
  exposureMidpoint : ∀ s, R s (exposureMidpoint s)
  exposureEnd : ∀ s, R s (exposureEnd s)
  readoutCompletion : ∀ raw s, R s (readoutCompletion raw s)
  rowCompletion : ∀ s, R s (rowCompletion s)
  trialRowCompletion : ∀ s, R s (trialRowCompletion s)
  wallReportSent : ∀ s, R s (wallReportSent s)
  markerReportSent : ∀ s, R s (markerReportSent s)
  previewTileSent : ∀ s, R s (previewTileSent s)
  transition : ∀ (s : State) a b, R s { s with odo := s.odo.transition a b }
  closeWindow : ∀ s : State, R s { s with odo := s.odo.closeWindow }
  receiveLine : ∀ chars s, R s (receiveLine chars s)
  gatherLine : ∀ chars s, R s (gatherLine chars s)
  lineSent : ∀ s : State, R s { s with odo := s.odo.lineSent }
  advisoryRepeat : ∀ s : State, R s { s with odo := { s.odo with advisoryDue := true } }

namespace KeptByParts

variable {R : State → State → Prop} (K : KeptByParts R)
include K

theorem takeUpTo (n : Nat) (s : State) : R s (takeUpTo n s) := by
  induction n generalizing s with
  | zero => exact K.refl s
  | succ n ih =>
    unfold Machine.takeUpTo
    split
    · exact K.refl s
    · split
      · exact K.trans (K.link s _) (K.trans (K.runCommand ..) (ih _))
      · exact K.refl s

theorem takeCommands (s : State) : R s (takeCommands s) := K.takeUpTo _ s

theorem refuse (tag : Byte) (s : State) : R s (refuse tag s) := by
  unfold Machine.refuse
  dsimp only
  split <;> exact K.link s _

theorem deliver (w : Waiting) (s : State) : R s (deliver w s) := by
  unfold Machine.deliver
  split
  · exact K.trans (K.link s _) (K.takeCommands _)
  · exact K.refuse w.tag s

theorem feedByte (s : State) (b : Byte) : R s (feedByte s b) := by
  unfold Machine.feedByte
  split
  · exact K.link s _
  · exact K.link s _
  · unfold headerByte lengthKnown
    split
    · split_ifs <;> exact K.link s _
    · exact K.link s _
  · unfold payloadByte
    split_ifs <;> exact K.link s _
  · unfold crcBytes judge
    split
    · exact K.link s _
    · split_ifs
      · exact K.trans (K.link s _) (K.deliver ..)
      · exact K.link s _

theorem feedBytes (bytes : List Byte) (s : State) : R s (feedBytes bytes s) := by
  induction bytes generalizing s with
  | nil => exact K.refl s
  | cons b rest ih => exact K.trans (K.feedByte s b) (ih _)

theorem silence (s : State) : R s (silence s) := by
  unfold Machine.silence
  split
  · exact K.refl s
  · exact K.link s _

theorem replySent (s : State) : R s (replySent s) := by
  unfold Machine.replySent
  split
  · exact K.trans (K.link s _) (K.takeCommands _)
  · exact K.refl s

theorem controlItemSent (s : State) : R s (controlItemSent s) := by
  unfold Machine.controlItemSent
  split
  · exact K.link s _
  · exact K.refl s

/-- An outcome is in the relation when the state it holds is, settled at the end of the step. -/
theorem of_settled {s u t : State} (h : (.next (Machine.settle u) : Host.Outcome State Fault Refusal) = .next t)
    (stays : R s u) : R s t :=
  Host.Outcome.next.inj h ▸ K.trans stays (K.settle u)

/-- Every command and every event stays in the relation. -/
theorem exec (c : Instr) (s t : State) (h : exec c s = .next t) : R s t := by
  cases c
  case powerOnReset => exact K.of_settled h (K.fullReset s)
  case acceptedMessage bytes => exact K.of_settled h (K.feedBytes bytes s)
  case headerLengthFault kind tag length => exact K.of_settled h (K.feedBytes (headerBytes kind tag length) s)
  case silence => exact K.of_settled h (K.silence s)
  case frameTimerExpiry => exact K.of_settled h (K.timerExpiry s)
  case exposureMidpoint => exact K.of_settled h (K.exposureMidpoint s)
  case exposureEnd => exact K.of_settled h (K.exposureEnd s)
  case readoutCompletion raw => exact K.of_settled h (K.readoutCompletion raw s)
  case rowCompletion => exact K.of_settled h (K.rowCompletion s)
  case trialRowCompletion => exact K.of_settled h (K.trialRowCompletion s)
  case replyTransmitted => exact K.of_settled h (K.replySent s)
  case wallReportTransmitted => exact K.of_settled h (K.wallReportSent s)
  case markerReportTransmitted => exact K.of_settled h (K.markerReportSent s)
  case controlItemTransmitted => exact K.of_settled h (K.controlItemSent s)
  case previewTileTransmitted => exact K.of_settled h (K.previewTileSent s)
  case quadratureTransition a b => exact K.of_settled h (K.transition s a b)
  case speedWindowExpiry => exact K.of_settled h (K.closeWindow s)
  case rollLine digits => exact K.of_settled h (K.receiveLine (cleanLine (rollText digits)) s)
  case markerLine code => exact K.of_settled h (K.receiveLine (cleanLine (markerText code)) s)
  case qLine => exact K.of_settled h (K.receiveLine (cleanLine queryText) s)
  case malformedLine part =>
    refine K.of_settled h ?_
    split
    · exact K.receiveLine part.chars s
    · exact K.gatherLine part.chars s
  case portLineTransmitted => exact K.of_settled h (K.lineSent s)
  case advisoryRepeatExpiry => exact K.of_settled h (K.advisoryRepeat s)
  -- What remains are the rows of the host's commands: each is its command delivered.
  all_goals exact K.of_settled h (K.deliver _ s)

/-- Every step of the part stays in the relation. -/
theorem step (s t : State) (h : step s = .next t) : R s t := by
  unfold Machine.step at h
  split at h
  · exact Host.Outcome.next.inj h ▸ K.tick s
  · exact K.trans (K.pending s _) (K.exec _ _ _ h)

end KeptByParts

/-! ## The ranges of ODO's measures and record (R15, R17, R21, R24) -/

/-- An ODOMETER record in its ranges (R17). -/
def OdometerRecord.InRange (r : OdometerRecord) : Prop :=
  (r.sign = 1 ∨ r.sign = -1) ∧ (-1024 ≤ r.step ∧ r.step ≤ 1024) ∧ (0 ≤ r.zm ∧ r.zm ≤ 65535)

/-- X, the speed estimate, the roll and the ODOMETER record in their ranges. -/
def Odo.InRange (o : Odo) : Prop :=
  (Config.xMin ≤ o.x ∧ o.x ≤ Config.xMax) ∧ (-32768 ≤ o.speed ∧ o.speed ≤ 32767) ∧ o.roll ≤ 4095 ∧ o.odometer.InRange

namespace Odo.InRange

variable {o : Odo}

theorem reset (lineA lineB lineCut : Bool) : (Odo.reset lineA lineB lineCut).InRange := by
  simp [Odo.InRange, OdometerRecord.InRange, Odo.reset]

theorem reformLevel (h : o.InRange) (op : OpState) : (o.reformLevel op).InRange := by
  rw [o.reformLevel_eq]; exact h

theorem fillChanged (h : o.InRange) (fill : Nat) (op : OpState) : (o.fillChanged fill op).InRange :=
  reformLevel (o := { o with storeTerm := storeTermAfter o.advisory fill o.storeTerm }) h op

theorem coverageChanged (h : o.InRange) (advance ticks : Nat) (op : OpState) :
    (o.coverageChanged advance ticks op).InRange :=
  reformLevel (o := { o with coverageTerm := coverageTermAfter advance ticks o.coverageTerm }) h op

theorem portNext (h : o.InRange) (afterAdvisory : Bool) : (o.portNext afterAdvisory).InRange := by
  rw [o.portNext_frame]; exact h

theorem portKick (h : o.InRange) : o.portKick.InRange := by
  rw [o.portKick_frame]; exact h

theorem lineSent (h : o.InRange) : o.lineSent.InRange := by
  unfold Odo.lineSent
  split
  · exact h
  · exact h.portNext false
  · exact h.portNext true

theorem move (h : o.InRange) (d : Int) : (o.move d).InRange :=
  let ⟨_, rest⟩ := h
  ⟨clampInt_bounds _ _ _ (by decide), rest⟩

theorem transition (h : o.InRange) (a b : Bool) : (o.transition a b).InRange := by
  unfold Odo.transition
  split
  · exact h
  · dsimp only
    split
    · exact h
    · exact move (o := { o with lineA := a, lineB := b, refA := a, refB := b }) h _
    · exact h
    · exact move (o := { o with lineA := a, lineB := b, refA := a, refB := b }) h _

theorem closeWindow (h : o.InRange) : o.closeWindow.InRange :=
  let ⟨x, _, rest⟩ := h
  ⟨x, clampInt_bounds _ _ _ (by decide), rest⟩

end Odo.InRange

/-- A roll line is one only with a value up to 4095 (R22, R24). -/
theorem rollForm_le (digits : List Byte) (v : Nat) (h : rollForm digits = .roll v) : v ≤ 4095 := by
  unfold rollForm at h
  split at h
  case isTrue form => cases h; exact form.2.2.2
  case isFalse => cases h

theorem lineForm_roll_le (text : List Byte) (v : Nat) (h : lineForm text = .roll v) : v ≤ 4095 := by
  unfold lineForm at h
  split at h
  · split at h <;> cases h
  · split_ifs at h
    · exact rollForm_le _ v h
    · unfold markerForm at h
      split at h <;> cases h
  · cases h

theorem classifyLine_roll_le (chars : List LineChar) (v : Nat) (h : classifyLine chars = .roll v) : v ≤ 4095 := by
  unfold classifyLine at h
  split at h
  · cases h
  · dsimp only at h
    split at h
    · cases h
    · exact lineForm_roll_le _ v h

theorem Odo.endedForm_roll_le (o : Odo) (chars : List LineChar) (v : Nat) (h : o.endedForm chars = .roll v) :
    v ≤ 4095 := by
  unfold Odo.endedForm at h
  split at h
  · cases h
  · exact classifyLine_roll_le _ v h

theorem Odo.InRange.takeLine {o : Odo} (h : o.InRange) (strip : Strip) (frameCounter : Nat) (form : LineForm)
    (roll : ∀ v, form = .roll v → v ≤ 4095) : (o.takeLine strip frameCounter form).InRange := by
  cases form with
  | malformed => exact h
  | roll v =>
    obtain ⟨x, speed, _, record⟩ := h
    exact ⟨x, speed, roll v rfl, record⟩
  | marker code =>
    unfold Odo.takeLine Odo.takeMarker
    dsimp only
    split_ifs
    · exact h
    · split <;> exact h
  | query =>
    unfold Odo.takeLine Odo.takeQuery
    dsimp only
    split_ifs
    · exact h
    · split <;> exact h

/-! ## The range of the drift (R59) -/

/-- The drift in its range. -/
def Blk.DriftInRange (b : Blk) : Prop := -1024 ≤ b.drift ∧ b.drift ≤ 1024

theorem Blk.DriftInRange.reset : Blk.reset.DriftInRange := by simp [Blk.DriftInRange, Blk.reset]

theorem Blk.DriftInRange.measureDark {b : Blk} (h : b.DriftInRange) (column : List Nat) (rows : List (List Nat)) :
    (b.measureDark column rows).DriftInRange := by
  unfold Blk.measureDark
  split
  · exact h
  · exact clampInt_bounds _ _ _ (by decide)

theorem measuresWithinBounds_iff (s : State) : MeasuresWithinBounds s ↔ s.odo.InRange ∧ s.blk.DriftInRange := by
  unfold MeasuresWithinBounds Odo.InRange OdometerRecord.InRange Blk.DriftInRange
  tauto

/-! ## The sizes and ranges of the tables (R159, R160) and of the column sums (R60) -/

theorem tablesWellFormed_iff (s : State) :
    TablesWellFormed s ↔ (∀ i, (s.tbu.get i).wellFormed i) ∧ s.blk.colSums.length = Config.columnEntries := by
  constructor
  · rintro ⟨profile, shade, column, sums⟩
    exact ⟨fun i => by cases i <;> assumption, sums⟩
  · rintro ⟨tables, sums⟩
    exact ⟨tables .profile, tables .shade, tables .column, sums⟩

theorem nextGen_le (gen : Nat) (h : gen ≤ 65535) : nextGen gen ≤ 65535 := by
  unfold nextGen; split <;> omega

theorem TableState.wellFormed.apply {t : TableState} {i : TableId} (h : t.wellFormed i) : t.apply.wellFormed i :=
  let ⟨_, pending, _, pendingTop, gen⟩ := h
  ⟨pending, pending, pendingTop, pendingTop, nextGen_le _ gen⟩

/-- One table replaced by a well-formed one. -/
theorem Tbu.wellFormed_set {t : Tbu} {i : TableId} {v : TableState} (h : ∀ j, (t.get j).wellFormed j)
    (hv : v.wellFormed i) (j : TableId) : ((t.set i v).get j).wellFormed j := by
  by_cases same : j = i
  · subst same; rw [Tbu.get_set_same]; exact hv
  · rw [Tbu.get_set_other _ _ _ _ same]; exact h j

theorem applyCommit_wellFormed (i : TableId) (p : CommitPoint) (s : State) (h : ∀ j, (s.tbu.get j).wellFormed j)
    (j : TableId) : ((applyCommit i p s).tbu.get j).wellFormed j := by
  have set : ∀ v : TableState, v.wellFormed i →
      (({ s.tbu.set i v with parked := (applyCommit i p s).tbu.parked } : Tbu).get j).wellFormed j := fun v hv =>
    have := Tbu.wellFormed_set h hv j
    by cases j <;> exact this
  rw [applyCommit_tbu]
  apply set
  split
  · exact h i
  · split
    · exact (h i).apply
    · exact h i

theorem writeEntries_length (entries values : List Nat) (start : Nat) (h : start + values.length ≤ entries.length) :
    (writeEntries entries start values).length = entries.length := by
  simp [writeEntries]; omega

theorem mem_writeEntries {entries values : List Nat} {start v : Nat} (h : v ∈ writeEntries entries start values) :
    v ∈ entries ∨ v ∈ values := by
  simp only [writeEntries, List.mem_append] at h
  rcases h with (h | h) | h
  · exact .inl (List.mem_of_mem_take h)
  · exact .inr h
  · exact .inl (List.mem_of_mem_drop h)

/-- The pending copy after a TABLE WRITE of values within the table's top. -/
theorem TableState.wellFormed.write {t : TableState} {i : TableId} (h : t.wellFormed i) (start : Nat)
    (values : List Nat) (fits : start + values.length ≤ i.entries) (small : ∀ v ∈ values, v ≤ i.top) :
    ({ t with pending := writeEntries t.pending start values } : TableState).wellFormed i := by
  obtain ⟨active, pending, activeTop, pendingTop, gen⟩ := h
  refine ⟨active, ?_, activeTop, fun v hv => ?_, gen⟩
  · rw [← pending] at fits
    exact (writeEntries_length _ _ _ fits).trans pending
  · exact (mem_writeEntries hv).elim (pendingTop v) (small v)

theorem columnOffset_le (height sum : Nat) : columnOffset height sum ≤ 4095 := Nat.min_le_right ..

/-- The active offsets after a long calibration, those of the window in front (R61). -/
theorem TableState.wellFormed.calibrated {t : TableState} (h : t.wellFormed .column) (b : Blk) (width height : Nat)
    (sums : b.colSums.length = Config.columnEntries) :
    ({ t with
        active := b.offsets width height ++ t.active.drop (b.offsets width height).length
        gen := nextGen t.gen } : TableState).wellFormed .column := by
  obtain ⟨active, pending, activeTop, pendingTop, gen⟩ := h
  refine ⟨?_, pending, fun v hv => ?_, pendingTop, nextGen_le _ gen⟩
  · simp only [TableId.entries] at active ⊢
    simp [Blk.offsets, active, sums]
  · rcases List.mem_append.mp hv with hv | hv
    · obtain ⟨sum, -, rfl⟩ := List.mem_map.mp hv
      exact columnOffset_le height sum
    · exact activeTop v (List.mem_of_mem_drop hv)

theorem foldl_addRow_length (rows : List (List Nat)) (sums : List Nat) :
    (rows.foldl addRow sums).length = sums.length := by
  induction rows generalizing sums with
  | nil => rfl
  | cons row rows ih => rw [List.foldl_cons, ih, addRow_length]

@[simp] theorem Blk.accumulate_colSums_length (b : Blk) (rows : List (List Nat)) :
    (b.accumulate rows).colSums.length = b.colSums.length := foldl_addRow_length rows b.colSums

/-! ## The ranges of drives, trims and the LIGHT record (R101, R102, R107, R116) -/

/-- A LIGHT record in its ranges (R107). -/
def LightRecord.InRange (r : LightRecord) : Prop :=
  (256 ≤ r.t ∧ r.t ≤ 3840) ∧ (8 ≤ r.tol ∧ r.tol ≤ 512) ∧ (128 ≤ r.cap ∧ r.cap ≤ 8184) ∧ (16 ≤ r.start ∧ r.start ≤ 1023)

/-- Eight drives of 0 to 1023 (R101). -/
def DrivesInRange (drives : List Nat) : Prop := drives.length = 8 ∧ ∀ d ∈ drives, d ≤ 1023

/-- Eight trims of 4096 to 16383 (R102). -/
def TrimsInRange (trims : List Nat) : Prop := trims.length = 8 ∧ ∀ t ∈ trims, 4096 ≤ t ∧ t ≤ 16383

/-- What ILC keeps, in its ranges. -/
def Ilc.InRange (i : Ilc) : Prop :=
  DrivesInRange i.drives ∧ TrimsInRange i.trims ∧ i.light.InRange ∧ ∀ u ∈ i.lastUpdate, u.sectors.length = 8

/-- Every frame record holds the drives of eight sectors (R44). -/
def Buffers.EightDrives (b : Buffers) : Prop := ∀ i, ∀ r ∈ (b.get i).record?, r.drives.length = 8

/-- Eight LED outputs (R45), and frame records of eight drives. -/
def Fsq.EightSectors (f : Fsq) : Prop := f.led.length = 8 ∧ f.buffers.EightDrives

theorem lightWithinRange_iff (s : State) :
    LightWithinRange s ↔ s.fsq.EightSectors ∧ s.ilc.InRange ∧ s.geo.EightSectors := by
  have records : (∀ b ∈ s.fsq.buffers.all, ∀ r ∈ b.record?, r.drives.length = 8) ↔ s.fsq.buffers.EightDrives := by
    simp only [Buffers.mem_all, Buffers.EightDrives]
    exact ⟨fun h i => h _ ⟨i, rfl⟩, by rintro h _ ⟨i, rfl⟩; exact h i⟩
  unfold LightWithinRange SectorsComplete Fsq.EightSectors Ilc.InRange DrivesInRange TrimsInRange LightRecord.InRange
  rw [records]
  tauto

theorem lightRecordOf_inRange (r : LightFields) : (lightRecordOf r).InRange :=
  ⟨clampNat_bounds _ _ _ (by decide), clampNat_bounds _ _ _ (by decide), clampNat_bounds _ _ _ (by decide),
    clampNat_bounds _ _ _ (by decide)⟩

/-- The cap rule lowers drives and never raises one (R114). -/
theorem DrivesInRange.capRule {drives : List Nat} (h : DrivesInRange drives) (cap : Nat) :
    DrivesInRange (capRule cap drives) := by
  obtain ⟨eight, small⟩ := h
  refine ⟨(capRule_length cap drives).trans eight, ?_⟩
  unfold Machine.capRule
  split
  case isFalse => exact small
  case isTrue above =>
    intro d hd
    obtain ⟨d', hd', rfl⟩ := List.mem_map.mp hd
    have lowered : d' * cap / drives.sum ≤ d' :=
      Nat.div_le_of_le_mul (by rw [Nat.mul_comm]; exact Nat.mul_le_mul_right d' above.le)
    exact lowered.trans (small d' hd')

theorem LightRecord.InRange.startDrives {r : LightRecord} (h : r.InRange) : DrivesInRange r.startDrives := by
  obtain ⟨_, _, _, _, start⟩ := h
  refine DrivesInRange.capRule ⟨List.length_replicate, fun d hd => ?_⟩ r.cap
  rw [List.eq_of_mem_replicate hd]
  exact start

theorem trimsInRange_replicate : TrimsInRange (List.replicate 8 4096) :=
  ⟨rfl, fun t ht => by rw [List.eq_of_mem_replicate ht]; decide⟩

/-! ## The illumination update (R110 to R118) -/

/-- A quarter step ends between where it starts and its target (R113, R116). -/
theorem quarterStep_between (cur target lo hi : Nat) (hcur : lo ≤ cur ∧ cur ≤ hi) (htarget : lo ≤ target ∧ target ≤ hi) :
    lo ≤ quarterStep cur target ∧ quarterStep cur target ≤ hi := by
  unfold quarterStep
  split_ifs <;> omega

theorem driveTarget_le (t : Nat) (u : SectorUpdate) (m drive : Nat) (h : drive ≤ 1023) :
    driveTarget t u m drive ≤ 1023 := by
  unfold driveTarget
  split
  · omega
  · exact (clampNat_bounds _ 16 1023 (by decide)).2

theorem steppedDrive_le (t : Nat) (u : SectorUpdate) (drive : Nat) (h : drive ≤ 1023) : steppedDrive t u drive ≤ 1023 := by
  unfold steppedDrive
  split
  · exact h
  · exact (quarterStep_between _ _ 0 1023 ⟨Nat.zero_le _, h⟩ ⟨Nat.zero_le _, driveTarget_le _ _ _ _ h⟩).2

theorem trimTarget_inRange (t : Nat) (u : SectorUpdate) (m : Nat) : 4096 ≤ trimTarget t u m ∧ trimTarget t u m ≤ 16383 := by
  unfold trimTarget
  split
  · exact clampNat_bounds _ _ _ (by decide)
  · decide

theorem steppedTrim_inRange (t : Nat) (u : SectorUpdate) (trim : Nat) (h : 4096 ≤ trim ∧ trim ≤ 16383) :
    4096 ≤ steppedTrim t u trim ∧ steppedTrim t u trim ≤ 16383 := by
  unfold steppedTrim
  split
  · exact h
  · exact quarterStep_between _ _ _ _ h (trimTarget_inRange ..)

/-- What holds of every result over the second list holds throughout. -/
theorem forall_mem_zipWith {α β γ : Type} {f : α → β → γ} {l : List α} {l' : List β} {P : γ → Prop}
    (h : ∀ a, ∀ b ∈ l', P (f a b)) : ∀ c ∈ List.zipWith f l l', P c := by
  intro c hc
  obtain ⟨i, hi, rfl⟩ := List.mem_iff_getElem.mp hc
  rw [List.getElem_zipWith]
  exact h _ _ (List.getElem_mem _)

theorem measureSectors_length (r : LightRecord) (stats : List SectorStat) (trims drives : List Nat)
    (hs : stats.length = 8) (ht : trims.length = 8) (hd : drives.length = 8) :
    (measureSectors r stats trims drives).length = 8 := by
  simp [measureSectors, hs, ht, hd]

theorem markCapped_length (us : List SectorUpdate) (before after : List Nat)
    (hu : us.length = 8) (hb : before.length = 8) (ha : after.length = 8) : (markCapped us before after).length = 8 := by
  simp [markCapped, hu, hb, ha]

namespace Ilc.InRange

variable {i : Ilc}

theorem reset : Ilc.reset.InRange :=
  ⟨⟨rfl, by decide⟩, trimsInRange_replicate, by simp [LightRecord.InRange, Ilc.reset], by simp [Ilc.reset]⟩

theorem atStart (h : i.InRange) : i.atStart.InRange := by
  obtain ⟨_, _, light, _⟩ := h
  exact ⟨light.startDrives, trimsInRange_replicate, light, by simp [Ilc.atStart]⟩

theorem countLock (h : i.InRange) (clean : Bool) : (i.countLock clean).InRange := by
  unfold Ilc.countLock
  split
  · split <;> exact h
  · exact h
  · exact h
  · split <;> exact h
  · exact h

/-- One update leaves the drives, the trims and its own record in range. -/
theorem update (h : i.InRange) (frameNumber : Nat) (stats : List SectorStat) (latchedTrims : List Nat)
    (hs : stats.length = 8) (ht : latchedTrims.length = 8) : (i.update frameNumber stats latchedTrims).InRange := by
  obtain ⟨⟨eightDrives, drives⟩, ⟨eightTrims, trims⟩, light, _⟩ := h
  have measured := measureSectors_length i.light stats latchedTrims i.drives hs ht eightDrives
  have stepped : DrivesInRange
      (List.zipWith (steppedDrive i.light.t) (measureSectors i.light stats latchedTrims i.drives) i.drives) :=
    ⟨by simp [measured, eightDrives], forall_mem_zipWith fun u d hd => steppedDrive_le _ u d (drives d hd)⟩
  have capped := stepped.capRule i.light.cap
  have marked := markCapped_length _ _ _ measured stepped.1 capped.1
  unfold Ilc.update
  apply countLock
  refine ⟨capped, ⟨?_, ?_⟩, light, ?_⟩
  · simp [marked, eightTrims]
  · exact forall_mem_zipWith fun u t ht => steppedTrim_inRange _ u t (trims t ht)
  · rintro u ⟨⟩
    exact marked

theorem onStatistics (h : i.InRange) (frameNumber : Nat) (stats : List SectorStat) (latchedTrims : List Nat)
    (hs : stats.length = 8) (ht : latchedTrims.length = 8) :
    (i.onStatistics frameNumber stats latchedTrims).1.InRange := by
  unfold Ilc.onStatistics
  split_ifs
  · exact h
  · exact h
  · exact h.update frameNumber stats latchedTrims hs ht

end Ilc.InRange

/-! ## The frame records in the buffers (R44, R48) -/

/-- A buffer's frame record, when it has one, holds eight drives. -/
def Buffer.EightDrives (b : Buffer) : Prop := ∀ r ∈ b.record?, r.drives.length = 8

theorem Buffer.eightDrives_free : Buffer.free.EightDrives := by simp [Buffer.EightDrives, Buffer.record?]

theorem Buffer.EightDrives.abandonExposure {b : Buffer} (h : b.EightDrives) : b.abandonExposure.EightDrives := by
  cases b with
  | exposing r p => exact Buffer.eightDrives_free
  | free | ready | rendering | held => exact h

theorem Buffer.EightDrives.discardReady {b : Buffer} (h : b.EightDrives) : b.discardReady.EightDrives := by
  cases b with
  | ready f => exact Buffer.eightDrives_free
  | free | exposing | rendering | held => exact h

theorem Buffers.EightDrives.set {b : Buffers} (h : b.EightDrives) (i : BufferId) {v : Buffer} (hv : v.EightDrives) :
    (b.set i v).EightDrives := by
  intro j
  by_cases same : j = i
  · subst same; rw [Buffers.get_set_same]; exact hv
  · rw [Buffers.get_set_other _ _ _ _ same]; exact h j

theorem Buffers.EightDrives.map {b : Buffers} (h : b.EightDrives) {f : Buffer → Buffer}
    (hf : ∀ v : Buffer, v.EightDrives → (f v).EightDrives) : (b.map f).EightDrives := by
  intro i
  rw [Buffers.get_map]
  exact hf _ (h i)

/-- The exposure in flight stands in its buffer. -/
theorem Buffers.get_of_exposure {b : Buffers} {i : BufferId} {r : ExposureRecord} {p : ExposurePhase}
    (h : b.exposure = some (i, r, p)) : b.get i = .exposing r p := by
  have exposing : ∀ v : Buffer, v.exposing? = some (r, p) → v = .exposing r p := by
    intro v hv
    cases v <;> simp_all [Buffer.exposing?]
  unfold Buffers.exposure Buffers.find at h
  split at h
  case h_1 h0 => cases h; exact exposing _ h0
  case h_2 =>
    split at h
    case h_1 h1 => cases h; exact exposing _ h1
    case h_2 =>
      split at h
      case h_1 h2 => cases h; exact exposing _ h2
      case h_2 => cases h

/-- The record of the exposure in flight holds eight drives. -/
theorem Buffers.EightDrives.exposure {b : Buffers} (h : b.EightDrives) {i : BufferId} {r : ExposureRecord}
    {p : ExposurePhase} (e : b.exposure = some (i, r, p)) : r.drives.length = 8 := by
  have inBuffer := h i
  rw [Buffers.get_of_exposure e] at inBuffer
  exact inBuffer r rfl

theorem exposureDrives_length (kind : FrameKind) (drives : List Nat) (h : drives.length = 8) :
    (exposureDrives kind drives).length = 8 := by
  cases kind with
  | stream | hold => exact h
  | dark | calibration => rfl

/-! ## The ranges a step keeps -/

/-- What is in its range before is in its range after: one clause for each family of ranges. A clause not given is that of
an operation that leaves the family's part of the state as it is. -/
structure KeepsRanges (s t : State) : Prop where
  odo : s.odo.InRange → t.odo.InRange := by exact id
  drift : s.blk.DriftInRange → t.blk.DriftInRange := by exact id
  strip : StripWithinRange s → StripWithinRange t := by exact id
  tables : TablesWellFormed s → TablesWellFormed t := by exact id
  light : LightWithinRange s → LightWithinRange t := by exact id

namespace KeepsRanges

theorem refl (s : State) : KeepsRanges s s := {}

theorem trans {s t u : State} (h : KeepsRanges s t) (h' : KeepsRanges t u) : KeepsRanges s u where
  odo := h'.odo ∘ h.odo
  drift := h'.drift ∘ h.drift
  strip := h'.strip ∘ h.strip
  tables := h'.tables ∘ h.tables
  light := h'.light ∘ h.light

/-! ### Operations of the blocks -/

theorem odo_set (s : State) (o : Odo) (h : s.odo.InRange → o.InRange) : KeepsRanges s { s with odo := o } where
  odo := h

theorem ilc_set (s : State) (i : Ilc) (h : s.ilc.InRange → i.InRange) : KeepsRanges s { s with ilc := i } where
  light before := by
    obtain ⟨fsq, ilc, geo⟩ := (lightWithinRange_iff s).mp before
    exact (lightWithinRange_iff _).mpr ⟨fsq, h ilc, geo⟩

theorem fsq_set (s : State) (f : Fsq) (h : s.fsq.EightSectors → f.EightSectors) : KeepsRanges s { s with fsq := f } where
  light before := by
    obtain ⟨fsq, ilc, geo⟩ := (lightWithinRange_iff s).mp before
    exact (lightWithinRange_iff _).mpr ⟨h fsq, ilc, geo⟩

theorem geo_set (s : State) (g : Geo) (h : s.geo.EightSectors → g.EightSectors) : KeepsRanges s { s with geo := g } where
  light before := by
    obtain ⟨fsq, ilc, geo⟩ := (lightWithinRange_iff s).mp before
    exact (lightWithinRange_iff _).mpr ⟨fsq, ilc, h geo⟩

theorem tbu_set (s : State) (t : Tbu) (h : (∀ i, (s.tbu.get i).wellFormed i) → ∀ i, (t.get i).wellFormed i) :
    KeepsRanges s { s with tbu := t } where
  tables before := by
    obtain ⟨tables, sums⟩ := (tablesWellFormed_iff s).mp before
    exact (tablesWellFormed_iff _).mpr ⟨h tables, sums⟩

/-- BLK's part: the drift, and as many column sums as before. -/
theorem blk_set (s : State) (b : Blk) (drift : s.blk.DriftInRange → b.DriftInRange)
    (sums : s.blk.colSums.length = Config.columnEntries → b.colSums.length = Config.columnEntries) :
    KeepsRanges s { s with blk := b } where
  drift := drift
  tables before := by
    obtain ⟨tables, length⟩ := (tablesWellFormed_iff s).mp before
    exact (tablesWellFormed_iff _).mpr ⟨tables, sums length⟩

/-! ### Operations over the state -/

theorem putReply (r : Reply) (s : State) : KeepsRanges s (putReply r s) := {}

theorem raise (i : ControlItem) (s : State) : KeepsRanges s (raise i s) := {}

theorem raiseEvent (e : Event) (s : State) : KeepsRanges s (raiseEvent e s) := {}

theorem reformLevel (s : State) : KeepsRanges s (reformLevel s) := odo_set s _ fun h => h.reformLevel _

theorem fillChanged (s : State) : KeepsRanges s (fillChanged s) := odo_set s _ fun h => h.fillChanged _ _

theorem storeEntry (e : Entry) (s : State) : KeepsRanges s (storeEntry e s) where
  odo h := h.fillChanged _ _

theorem settle (s : State) : KeepsRanges s (settle s) where
  odo h := by rw [settle_odo]; exact h.portKick
  drift h := by rw [settle_blk]; exact h
  strip h := by simpa only [StripWithinRange, settle_strip] using h
  tables h := by simpa only [TablesWellFormed, settle_tbu, settle_blk] using h
  light h := by simpa only [LightWithinRange, SectorsComplete, settle_fsq, settle_ilc, settle_geo] using h

theorem applyCommit (i : TableId) (p : CommitPoint) (s : State) : KeepsRanges s (applyCommit i p s) := by
  rw [applyCommit_frame]
  exact (tbu_set s _ (applyCommit_wellFormed i p s)).trans {}

theorem applyIdleCommits (s : State) : KeepsRanges s (applyIdleCommits s) := by
  unfold Machine.applyIdleCommits
  dsimp only
  split_ifs
  · exact refl s
  · exact (applyCommit ..).trans (applyCommit ..)
  · exact ((applyCommit ..).trans (applyCommit ..)).trans (applyCommit ..)

theorem applyRenderCommits (n : Nat) (s : State) : KeepsRanges s (applyRenderCommits n s) :=
  (applyCommit ..).trans (applyCommit ..)

theorem setOpState (op : OpState) (s : State) : KeepsRanges s (setOpState op s) := by
  have dark : s.ilc.InRange → (if op = .streaming then s.ilc else s.ilc.goDark).InRange := by
    split_ifs <;> exact id
  have stateAndLoop : KeepsRanges s
      { s with
        fsq := { s.fsq with opState := op }
        ilc := if op = .streaming then s.ilc else s.ilc.goDark } :=
    (ilc_set s _ dark).trans (fsq_set _ _ id)
  exact (stateAndLoop.trans (reformLevel _)).trans (applyIdleCommits _)

theorem stopTest (s : State) : KeepsRanges s (stopTest s) := by
  unfold Machine.stopTest
  split_ifs
  · exact ((fsq_set s { s.fsq with holdMark := false } id).trans (setOpState _ _)).trans (raiseEvent _ _)
  · exact refl s

/-! ### Exposures -/

/-- The latches of an exposure start put a record of eight drives into its buffer and light the ring with them. -/
theorem latchExposure (kind : FrameKind) (i : BufferId) (s : State) :
    KeepsRanges s
      { s with
        fsq := { s.fsq with
          buffers := s.fsq.buffers.set i (.exposing (exposureRecord kind s) .beforeMidpoint)
          darkCounter := darkCounterAfter kind s.fsq.darkCounter
          led := (exposureRecord kind s).drives
          strobe := true } } where
  light before := by
    obtain ⟨⟨_, records⟩, ilc, geo⟩ := (lightWithinRange_iff s).mp before
    have ⟨⟨drives, _⟩, _⟩ := ilc
    have eight := exposureDrives_length kind s.ilc.drives drives
    have record : (Buffer.exposing (exposureRecord kind s) .beforeMidpoint).EightDrives := by
      rintro r ⟨⟩
      exact eight
    exact (lightWithinRange_iff _).mpr ⟨⟨eight, records.set i record⟩, ilc, geo⟩

theorem startExposure (kind : FrameKind) (i : BufferId) (s : State) : KeepsRanges s (startExposure kind i s) := by
  have synthetic : KeepsRanges s
      { s with odo := if s.odo.odometer.step = 0 then s.odo else s.odo.move s.odo.odometer.step } :=
    odo_set s _ fun h => by
      split_ifs
      · exact h
      · exact h.move _
  have counted := fsq_set
    { s with odo := if s.odo.odometer.step = 0 then s.odo else s.odo.move s.odo.odometer.step }
    { s.fsq with frameCounter := (s.fsq.frameCounter + 1) % 4294967296 } id
  exact (synthetic.trans counted).trans ((applyCommit .column (.exposureStart _) _).trans (latchExposure kind i _))

end KeepsRanges

@[simp] theorem handOn_fsq (k : RenderContext) (item : RowItem) (pixels : List Pixel) (s : State) :
    (handOn k item pixels s).fsq = s.fsq := by rw [handOn_frame]

@[simp] theorem handOn_geo (k : RenderContext) (item : RowItem) (pixels : List Pixel) (s : State) :
    (handOn k item pixels s).geo = s.geo := by rw [handOn_frame]

namespace KeepsRanges

theorem slip (cause : SlipCause) (s : State) : KeepsRanges s (slip cause s) :=
  (fsq_set s { s.fsq with slipCount := satSucc Config.max16 s.fsq.slipCount } id).trans (raiseEvent _ _)

theorem timerExpiry (s : State) : KeepsRanges s (timerExpiry s) := by
  have expired : ∀ u : State, KeepsRanges u (expire u) := by
    intro u
    unfold expire
    split
    · exact slip ..
    · split
      · exact slip ..
      · exact startExposure ..
  unfold Machine.timerExpiry
  split
  · exact refl s
  · exact (fsq_set s { s.fsq with timer := some s.fsq.sensor.period } id).trans (expired _)

/-- The exposure in flight goes into its next phase, with its record. -/
theorem nextPhase (s : State) {i : BufferId} {r : ExposureRecord} {p : ExposurePhase}
    (inFlight : s.fsq.buffers.exposure = some (i, r, p)) (p' : ExposurePhase) (f : Fsq)
    (led : s.fsq.led.length = 8 → f.led.length = 8) (buffers : f.buffers = s.fsq.buffers.set i (.exposing r p')) :
    KeepsRanges s { s with fsq := f } := by
  refine fsq_set s f fun ⟨lit, records⟩ => ⟨led lit, buffers ▸ records.set i ?_⟩
  rintro r' ⟨⟩
  exact records.exposure inFlight

theorem exposureMidpoint (s : State) : KeepsRanges s (exposureMidpoint s) := by
  unfold Machine.exposureMidpoint
  split
  case h_1 i r inFlight => exact nextPhase s inFlight (.beforeEnd s.odo.x) _ id rfl
  all_goals exact refl s

theorem exposureEnd (s : State) : KeepsRanges s (exposureEnd s) := by
  unfold Machine.exposureEnd
  split
  case h_1 i r x inFlight => exact nextPhase s inFlight (.readout x) _ (fun _ => rfl) rfl
  all_goals exact refl s

/-- A buffer takes a state whose record, if it has one, holds eight drives; the ring stays as it is lit. -/
theorem buffer_set (s : State) (i : BufferId) (v : Buffer) (f : Fsq) (led : f.led = s.fsq.led)
    (buffers : f.buffers = s.fsq.buffers.set i v) (h : s.fsq.buffers.EightDrives → v.EightDrives) :
    KeepsRanges s { s with fsq := f } :=
  fsq_set s f fun ⟨lit, records⟩ => ⟨led ▸ lit, buffers ▸ records.set i (h records)⟩

/-- A buffer becomes FREE. -/
theorem buffer_free (s : State) (i : BufferId) (f : Fsq) (led : f.led = s.fsq.led)
    (buffers : f.buffers = s.fsq.buffers.set i .free) : KeepsRanges s { s with fsq := f } :=
  buffer_set s i .free f led buffers fun _ => Buffer.eightDrives_free

/-! ### Renders -/

theorem takeGapRange (a b : Int) (n : Nat) (d : Direction) (s : State) : KeepsRanges s (takeGapRange a b n d s) := by
  unfold Machine.takeGapRange
  split
  · exact {}
  · split
    · exact storeEntry ..
    · exact {}

theorem takeGapRanges (ranges : List (Int × Int)) (n : Nat) (d : Direction) (s : State) :
    KeepsRanges s (takeGapRanges ranges n d s) := by
  induction ranges generalizing s with
  | nil => exact refl s
  | cons r rest ih => exact (takeGapRange r.1 r.2 n d s).trans (ih _)

/-- A stream render begins with the sums of eight sectors at zero and latches eight trims (R69, R80). -/
theorem latchRender (s : State) (w : RenderWork) (o : Odo) (r : Rws) (odo : s.odo.InRange → o.InRange)
    (stats : w.stats = zeroStatistics) (trims : w.context.trims = s.ilc.trims) :
    KeepsRanges s { s with geo := .render w, odo := o, rws := r } where
  odo := odo
  light before := by
    obtain ⟨fsq, ilc, _⟩ := (lightWithinRange_iff s).mp before
    have ⟨_, ⟨eightTrims, _⟩, _⟩ := ilc
    exact (lightWithinRange_iff _).mpr ⟨fsq, ilc, by rw [stats]; rfl, by rw [trims]; exact eightTrims⟩

theorem startRender (i : BufferId) (f : Frame) (rest : List BufferId) (s : State)
    (ready : s.fsq.buffers.get i = .ready f) : KeepsRanges s (startRender i f rest s) := by
  have rendering : KeepsRanges s
      { s with fsq := { s.fsq with buffers := s.fsq.buffers.set i (.rendering f), readyOrder := rest } } :=
    buffer_set s i (.rendering f) _ rfl rfl fun records => by have := records i; rwa [ready] at this
  unfold Machine.startRender
  dsimp only
  refine (rendering.trans (applyRenderCommits f.record.frameNumber _)).trans ?_
  generalize Machine.applyRenderCommits f.record.frameNumber _ = u
  let start := u.cvt.renderStart u.strip.record f.position
  have scanned : KeepsRanges u { u with bcf := (u.bcf.scan f).1, cvt := start.cvt } := {}
  exact (scanned.trans (takeGapRanges start.ranges f.record.frameNumber start.direction _)).trans
    (latchRender _ _ _ _ (fun h => h.coverageChanged start.cvt.advance _ _) rfl rfl)

theorem tryRenderStart (s : State) : KeepsRanges s (tryRenderStart s) := by
  unfold Machine.tryRenderStart
  split
  · split
    · split
      case h_1 ready => exact startRender _ _ _ s ready
      all_goals exact refl s
    all_goals exact refl s
  · exact refl s

theorem decideRow (row : RowEntry) (s : State) : KeepsRanges s (decideRow row s) := by
  unfold Machine.decideRow
  dsimp only
  split
  · exact {}
  · exact .trans (t := { s with cvt := _ }) {} (storeEntry ..)

theorem handOn (k : RenderContext) (item : RowItem) (pixels : List Pixel) (s : State) :
    KeepsRanges s (handOn k item pixels s) := by
  cases item with
  | take n sp => exact decideRow ..
  | meter sp => exact refl s

theorem releaseBuffer (i : BufferId) (f : Frame) (s : State) (rendering : s.fsq.buffers.get i = .rendering f) :
    KeepsRanges s (releaseBuffer i f s) := by
  unfold Machine.releaseBuffer
  split
  · refine .trans ?_ (raiseEvent _ _)
    exact buffer_set s i (.held f) _ rfl rfl fun records => by have := records i; rwa [rendering] at this
  · exact buffer_free s i _ rfl rfl

theorem reportPhaseErrors (s : State) : KeepsRanges s (reportPhaseErrors s) := by
  unfold Machine.reportPhaseErrors
  split
  · exact refl s
  · exact (odo_set s { s.odo with phasePending := 0 } id).trans (raiseEvent _ _)

/-- A render completes with the statistics and the trims of eight sectors. -/
theorem finishRender (w : RenderWork) (f : Frame) (s : State) (rendering : s.fsq.buffers.get w.buffer = .rendering f)
    (eight : s.geo.EightSectors → w.stats.length = 8 ∧ w.context.trims.length = 8) :
    KeepsRanges s (finishRender w f s) := by
  have updated : KeepsRanges s
      { s with ilc := (s.ilc.onStatistics w.context.frameNumber w.stats w.context.trims).1, geo := .idle } :=
    { light := fun before => by
        obtain ⟨fsq, ilc, geo⟩ := (lightWithinRange_iff s).mp before
        obtain ⟨stats, trims⟩ := eight geo
        exact (lightWithinRange_iff _).mpr ⟨fsq, ilc.onStatistics _ _ _ stats trims, trivial⟩ }
  exact ((updated.trans (releaseBuffer w.buffer f _ rendering)).trans (raise _ _)).trans
    (((reportPhaseErrors _).trans (tryRenderStart _)).trans (stopTest _))

theorem completeRow (w : RenderWork) (item : RowItem) (f : Frame) (s : State) (geo : s.geo = .render w)
    (rendering : s.fsq.buffers.get w.buffer = .rendering f) : KeepsRanges s (completeRow w item f s) := by
  have eight (g : s.geo.EightSectors) (pixels : List Pixel) :
      (addStatistics w.stats pixels).length = 8 ∧ w.context.trims.length = 8 := by
    rw [geo] at g
    rwa [addStatistics_length]
  unfold Machine.completeRow
  dsimp only
  generalize renderRow w.context f.samples item.position = pixels
  refine (handOn w.context item pixels s).trans ?_
  split
  · refine finishRender _ f _ ?_ fun g => ?_
    · rwa [handOn_fsq]
    · rw [handOn_geo] at g
      exact eight g pixels
  · refine geo_set _ _ fun g => ?_
    rw [handOn_geo] at g
    exact eight g pixels

theorem rowCompletion (s : State) : KeepsRanges s (rowCompletion s) := by
  unfold Machine.rowCompletion
  split
  case h_1 w geo =>
    split
    case h_1 rendering => exact completeRow w _ _ s geo rendering
    case h_2 => exact refl s
  all_goals exact refl s

/-! ### Trial renders and the store -/

theorem storeTrialRow (w : TrialWork) (e : RowEntry) (s : State) : KeepsRanges s (storeTrialRow w e s) := by
  unfold Machine.storeTrialRow
  dsimp only
  split
  · exact ((storeEntry _ s).trans (geo_set _ .idle fun _ => trivial)).trans (raiseEvent _ _)
  · exact (storeEntry _ s).trans (geo_set _ _ fun _ => trivial)

theorem trialRowCompletion (s : State) : KeepsRanges s (trialRowCompletion s) := by
  unfold Machine.trialRowCompletion offerTrialRow
  split
  case h_1 w geo =>
    split
    · split
      · exact storeTrialRow ..
      · exact geo_set s _ fun _ => trivial
    · exact refl s
  all_goals exact refl s

theorem resumeTrial (s : State) : KeepsRanges s (resumeTrial s) := by
  unfold Machine.resumeTrial
  split
  case h_1 =>
    split
    · exact storeTrialRow ..
    · exact refl s
  all_goals exact refl s

theorem wallReportSent (s : State) : KeepsRanges s (wallReportSent s) := by
  unfold Machine.wallReportSent
  split
  · exact .trans (t := { freeDownlink s with rws := s.rws.wallSent }) {} ((fillChanged _).trans (resumeTrial _))
  · exact refl s

theorem markerReportSent (s : State) : KeepsRanges s (markerReportSent s) := by
  unfold Machine.markerReportSent
  split
  · exact {}
  · exact refl s

theorem previewTileSent (s : State) : KeepsRanges s (previewTileSent s) := by
  unfold Machine.previewTileSent
  split
  · exact {}
  · exact refl s

/-! ### Readouts and calibrations -/

theorem accumulate (s : State) (rows : List (List Nat)) : KeepsRanges s { s with blk := s.blk.accumulate rows } :=
  blk_set s _ id (Blk.accumulate_colSums_length s.blk rows).trans

theorem measureDark (s : State) (column : List Nat) (rows : List (List Nat)) :
    KeepsRanges s { s with blk := s.blk.measureDark column rows } :=
  blk_set s _ (fun h => h.measureDark column rows) fun sums => by
    unfold Blk.measureDark
    split <;> exact sums

theorem completeCalibration (r : ExposureRecord) (s : State) : KeepsRanges s (completeCalibration r s) where
  drift _ := by simp [Machine.completeCalibration, Blk.DriftInRange]
  tables before := by
    obtain ⟨profile, shade, column, sums⟩ := before
    exact ⟨profile, shade, column.calibrated s.blk r.width r.height sums, sums⟩

theorem calibrationReadout (r : ExposureRecord) (rows : List (List Nat)) (s : State) :
    KeepsRanges s (calibrationReadout r rows s) := by
  have summed : KeepsRanges s
      { s with blk := { s.blk.accumulate rows with calFrames := (s.blk.accumulate rows).calFrames + 1 } } :=
    (accumulate s rows).trans (blk_set _ _ id id)
  unfold Machine.calibrationReadout
  dsimp only
  refine summed.trans ?_
  split
  · refine .trans ?_ ((completeCalibration r _).trans (setOpState _ _))
    exact fsq_set _ _ id
  · exact applyIdleCommits _

theorem streamReadout (i : BufferId) (f : Frame) (s : State)
    (record : s.fsq.buffers.EightDrives → (Buffer.ready f).EightDrives) : KeepsRanges s (streamReadout i f s) := by
  unfold Machine.streamReadout
  split
  · refine .trans ?_ (tryRenderStart _)
    exact buffer_set s i (.ready f) _ rfl rfl record
  · refine .trans ?_ ((applyIdleCommits _).trans (stopTest _))
    exact buffer_free s i _ rfl rfl

theorem readoutCompletion (raw : List (List Sample)) (s : State) : KeepsRanges s (readoutCompletion raw s) := by
  unfold Machine.readoutCompletion
  split
  case h_1 i r x inFlight =>
    have record (records : s.fsq.buffers.EightDrives) (samples : List (List Nat)) :
        (Buffer.held ⟨r, x, samples⟩).EightDrives := by
      rintro r' ⟨⟩
      exact records.exposure inFlight
    have freed : KeepsRanges s { s with fsq := { s.fsq with buffers := s.fsq.buffers.set i .free } } :=
      buffer_free s i _ rfl rfl
    dsimp only
    split
    · exact streamReadout i _ s fun records => record records _
    · refine .trans (freed.trans ?_) ((applyIdleCommits _).trans ((tryRenderStart _).trans (stopTest _)))
      exact measureDark _ s.tbu.column.active _
    · exact freed.trans (calibrationReadout r _ _)
    · refine .trans ?_ ((applyIdleCommits _).trans (raiseEvent _ _))
      exact buffer_set s i (.held _) _ rfl rfl fun records => record records _
  all_goals exact refl s

end KeepsRanges

/-! ## The commands -/

namespace KeepsRanges

theorem cmdSensor (r : SensorFields) (s : State) : KeepsRanges s (cmdSensor r s).1 := by
  unfold Machine.cmdSensor
  split
  · exact refl s
  · split
    · exact refl s
    · dsimp only
      split
      · exact refl s
      · split
        · exact refl s
        · dsimp only
          split
          · refine .trans ?_ (setOpState _ _)
            exact {}
          · exact {}

/-- An accepted STRIP record is in its ranges (R6). -/
theorem stripRecordOf_inRange (r : StripFields) (s : State) (good : stripBad r = false) (cvt : Cvt) :
    StripWithinRange { s with strip := ⟨true, stripRecordOf r⟩, cvt := cvt } := by
  obtain ⟨w, b0, b1, p, pTop, z0, z0Top, depth⟩ := (stripBad_eq_false_iff r).mp good
  simp only [← BitVec.toNat_inj] at w depth
  exact ⟨b0, b1, pTop, z0, z0Top, Nat.le_of_lt_succ (Nat.mod_lt _ (by decide)), Nat.min_le_right _ _, depth,
    fun _ => ⟨p, w⟩⟩

theorem cmdStrip (r : StripFields) (s : State) : KeepsRanges s (cmdStrip r s).1 := by
  unfold Machine.cmdStrip
  split
  · exact refl s
  · split
    · exact refl s
    · next good => exact { strip := fun _ => stripRecordOf_inRange r s (Bool.eq_false_iff.mpr good) _ }

theorem cmdLight (r : LightFields) (s : State) : KeepsRanges s (cmdLight r s).1 := by
  unfold Machine.cmdLight
  split
  · exact refl s
  · refine { light := fun before => ?_ }
    obtain ⟨⟨lit, records⟩, ⟨drives, trims, _, update⟩, geo⟩ := (lightWithinRange_iff s).mp before
    exact (lightWithinRange_iff _).mpr ⟨⟨(capRule_length _ _).trans lit, records⟩,
      ⟨drives.capRule _, trims, lightRecordOf_inRange r, update⟩, geo⟩

theorem cmdCentre (r : CentreFields) (s : State) : KeepsRanges s (cmdCentre r s).1 := by
  unfold Machine.cmdCentre
  split
  · exact refl s
  · split
    · exact refl s
    · exact {}

theorem cmdOdometer (r : OdometerFields) (s : State) : KeepsRanges s (cmdOdometer r s).1 := by
  unfold Machine.cmdOdometer
  split
  · exact refl s
  · split
    · exact refl s
    · next sign =>
      refine odo_set s _ fun ⟨x, speed, roll, _⟩ => ⟨x, speed, roll, ?_, clampInt_bounds _ _ _ (by decide),
        clampInt_bounds _ _ _ (by decide)⟩
      dsimp only
      tauto

theorem cmdDark (n : Half) (s : State) : KeepsRanges s (cmdDark n s).1 := by
  unfold Machine.cmdDark
  split
  · exact refl s
  · exact {}

theorem cmdAdvisory (r : AdvisoryFields) (s : State) : KeepsRanges s (cmdAdvisory r s).1 := by
  unfold Machine.cmdAdvisory
  split_ifs
  · exact refl s
  · dsimp only
    refine .trans ?_ (fillChanged _)
    exact {}
  · exact refl s

theorem cmdPreview (n : Half) (s : State) : KeepsRanges s (cmdPreview n s).1 := by
  unfold Machine.cmdPreview
  split
  · exact refl s
  · exact {}

theorem cmdPreset (position : Word) (s : State) : KeepsRanges s (cmdPreset position s).1 := by
  unfold Machine.cmdPreset
  split
  · exact refl s
  · split
    · exact refl s
    · next inside =>
      rw [not_or, not_lt, not_lt] at inside
      exact odo_set s _ fun ⟨_, rest⟩ => ⟨inside, rest⟩

theorem cmdTableWrite (table : Byte) (start : Half) (values : List Half) (s : State) :
    KeepsRanges s (cmdTableWrite table start values s).1 := by
  unfold Machine.cmdTableWrite
  split
  · exact refl s
  · next i _ =>
    split
    · exact refl s
    · next fits =>
      simp only [Bool.or_eq_true, decide_eq_true_eq, not_or, not_lt] at fits
      refine tbu_set s _ fun h => Tbu.wellFormed_set h ((h i).write _ _ (by simpa using fits.2) fun v hv => ?_)
      obtain ⟨value, -, rfl⟩ := List.mem_map.mp hv
      exact Nat.min_le_right _ _

theorem cmdTableRead (table copy : Byte) (start count : Half) (s : State) :
    KeepsRanges s (cmdTableRead table copy start count s).1 := by
  unfold Machine.cmdTableRead
  repeat' split
  all_goals exact refl s

theorem cmdCommit (table : Byte) (expected : Half) (s : State) : KeepsRanges s (cmdCommit table expected s).1 := by
  unfold Machine.cmdCommit
  split
  · exact refl s
  · next i _ =>
    dsimp only
    split_ifs
    · exact refl s
    · exact refl s
    · dsimp only
      refine .trans ?_ (applyIdleCommits _)
      exact tbu_set s _ fun h => Tbu.wellFormed_set h (h i)

theorem cmdSync (tag : Byte) (s : State) : KeepsRanges s (cmdSync tag s).1 := by
  unfold Machine.cmdSync
  split_ifs
  · exact refl s
  · exact {}
  · exact refl s

theorem cmdCalibrate (s : State) : KeepsRanges s (cmdCalibrate s).1 := by
  unfold Machine.cmdCalibrate
  split_ifs
  · exact refl s
  · exact refl s
  · dsimp only
    refine .trans ?_ (setOpState _ _)
    exact (fsq_set s { s.fsq with timer := some 0 } id).trans
      (blk_set _ s.blk.emptyAccumulators id fun _ => List.length_replicate)

theorem startEffects (s : State) : KeepsRanges s (startEffects s) where
  light before := by
    obtain ⟨fsq, ilc, geo⟩ := (lightWithinRange_iff s).mp before
    exact (lightWithinRange_iff _).mpr ⟨fsq, ilc.atStart, geo⟩

theorem cmdStart (s : State) : KeepsRanges s (cmdStart s).1 := by
  unfold Machine.cmdStart
  split_ifs
  case neg => exact (startEffects s).trans (setOpState .streaming _)
  all_goals exact refl s

theorem keepDelivered (s : State) : KeepsRanges s (keepDelivered s) := by
  unfold Machine.keepDelivered
  split
  · split
    · exact .trans (t := { s with blk := s.blk.accumulate _ }) (accumulate s _) {}
    · exact refl s
  all_goals exact refl s

theorem abandonExposures (s : State) : KeepsRanges s { s with fsq := s.fsq.abandonExposures } :=
  fsq_set s _ fun ⟨_, records⟩ => ⟨rfl, records.map fun _ => Buffer.EightDrives.abandonExposure⟩

theorem stopCalibration (s : State) : KeepsRanges s (stopCalibration s) :=
  ((keepDelivered s).trans (abandonExposures _)).trans ((raiseEvent _ _).trans (setOpState _ _))

theorem stopStream (s : State) : KeepsRanges s (stopStream s) := by
  refine .trans ?_ ((setOpState _ _).trans (stopTest _))
  exact fsq_set s _ fun ⟨lit, records⟩ => ⟨lit, records.map fun _ => Buffer.EightDrives.discardReady⟩

theorem cmdStop (s : State) : KeepsRanges s (cmdStop s).1 := by
  unfold Machine.cmdStop
  split
  case h_3 => exact stopCalibration s
  case h_4 => exact stopStream s
  all_goals exact refl s

theorem cmdRelight (s : State) : KeepsRanges s (cmdRelight s).1 := by
  unfold Machine.cmdRelight
  split
  · exact refl s
  · exact ilc_set s _ fun h => h.atStart

theorem cmdHold (s : State) : KeepsRanges s (cmdHold s).1 := by
  unfold Machine.cmdHold
  dsimp only
  split
  case h_4 => split_ifs <;> exact {}
  case h_5 =>
    split_ifs
    · exact refl s
    · split
      · exact startExposure ..
      · exact refl s
  all_goals exact refl s

theorem cmdRelease (s : State) : KeepsRanges s (cmdRelease s).1 := by
  unfold Machine.cmdRelease
  split
  · exact refl s
  · split
    · split
      · exact refl s
      · exact buffer_free s _ _ rfl rfl
    · split_ifs <;> exact {}

theorem cmdRerender (s : State) : KeepsRanges s (cmdRerender s).1 := by
  unfold Machine.cmdRerender
  split
  · exact refl s
  · split
    · exact refl s
    · split
      · exact refl s
      · split
        · exact refl s
        · split
          · exact refl s
          · exact (geo_set s (.trial _) fun _ => trivial).trans {}

theorem cmdNote (text : List Byte) (s : State) : KeepsRanges s (cmdNote text s).1 := by
  unfold Machine.cmdNote
  split
  · exact refl s
  · split
    · exact refl s
    · exact {}

/-! ### Resets -/

theorem resetCalibration (s : State) : KeepsRanges s (resetCalibration s) := by
  unfold Machine.resetCalibration
  split
  · exact (keepDelivered s).trans (raiseEvent _ _)
  · exact refl s

/-- RESET STREAM empties the buffers, darkens the ring and idles GEO; it keeps ILC. -/
theorem resetBlocks (s : State) (f : Fsq) (o : Odo) (b : Bcf) (c : Cvt) (r : Rws) (led : f.led.length = 8)
    (buffers : f.buffers = ⟨.free, .free, .free⟩) (odo : s.odo.InRange → o.InRange) :
    KeepsRanges s { s with fsq := f, odo := o, bcf := b, geo := .idle, cvt := c, rws := r } where
  odo := odo
  light before := by
    obtain ⟨_, ilc, _⟩ := (lightWithinRange_iff s).mp before
    have empty : f.buffers.EightDrives := by
      intro i
      rw [buffers]
      cases i <;> exact Buffer.eightDrives_free
    exact (lightWithinRange_iff _).mpr ⟨⟨led, empty⟩, ilc, trivial⟩

theorem resetStream (s : State) : KeepsRanges s (resetStream s) := by
  unfold Machine.resetStream
  dsimp only
  have emptied : KeepsRanges s { s with lnk := { s.lnk with controlQueue := [] } } := {}
  refine .trans (emptied.trans (resetCalibration _)) (.trans ?_ (setOpState _ _))
  exact resetBlocks _ _ _ _ _ _ rfl rfl id

/-- The power-on state is in range whatever was before it. -/
theorem fullReset (s : State) : KeepsRanges s (fullReset s) where
  odo _ := Odo.InRange.reset ..
  drift _ := Blk.DriftInRange.reset
  strip _ := by simp [StripWithinRange, Machine.fullReset, State.powerOn, Strip.reset]
  tables _ := by
    have zeros (i : TableId) : (TableState.reset i.entries).wellFormed i :=
      ⟨List.length_replicate, List.length_replicate, fun v hv => by simp [List.eq_of_mem_replicate hv],
        fun v hv => by simp [List.eq_of_mem_replicate hv], Nat.zero_le _⟩
    exact ⟨zeros .profile, zeros .shade, zeros .column, List.length_replicate⟩
  light _ := by
    refine (lightWithinRange_iff _).mpr ⟨⟨rfl, fun i => ?_⟩, Ilc.InRange.reset, trivial⟩
    cases i <;> exact Buffer.eightDrives_free

/-! ### Every command, and every step -/

theorem answer (tag : Byte) {s : State} {r : State × Answer} (h : KeepsRanges s r.1) : KeepsRanges s (answer tag r) :=
  h.trans (putReply _ _)

theorem answerOrPark (tag : Byte) {s : State} {r : State × Option Answer} (h : KeepsRanges s r.1) :
    KeepsRanges s (answerOrPark tag r) := by
  unfold Machine.answerOrPark
  split
  · exact answer tag (r := (r.1, _)) h
  · exact h

theorem runCommand (tag : Byte) (c : Command) (s : State) : KeepsRanges s (runCommand tag c s) := by
  cases c with
  | unknown _ | malformed | identify _ | status => exact answer tag (refl s)
  | sensor r => exact answer tag (cmdSensor r s)
  | strip r => exact answer tag (cmdStrip r s)
  | light r => exact answer tag (cmdLight r s)
  | centre r => exact answer tag (cmdCentre r s)
  | odometer r => exact answer tag (cmdOdometer r s)
  | dark n => exact answer tag (cmdDark n s)
  | advisory r => exact answer tag (cmdAdvisory r s)
  | preview n => exact answer tag (cmdPreview n s)
  | preset x => exact answer tag (cmdPreset x s)
  | tableWrite table start values => exact answer tag (cmdTableWrite table start values s)
  | tableRead table copy start count => exact answer tag (cmdTableRead table copy start count s)
  | commit table expected => exact answer tag (cmdCommit table expected s)
  | sync => exact answerOrPark tag (cmdSync tag s)
  | calibrate => exact answer tag (cmdCalibrate s)
  | start => exact answer tag (cmdStart s)
  | stop => exact answer tag (cmdStop s)
  | relight => exact answer tag (cmdRelight s)
  | hold => exact answer tag (cmdHold s)
  | release => exact answer tag (cmdRelease s)
  | rerender => exact answer tag (cmdRerender s)
  | note text => exact answer tag (cmdNote text s)
  | resetStream => exact answer tag (resetStream s)
  | resetFull => exact answer tag (fullReset s)

theorem receiveLine (chars : List LineChar) (s : State) : KeepsRanges s (receiveLine chars s) :=
  odo_set s _ fun h =>
    Odo.InRange.takeLine (o := { s.odo with lineBuf := [], lineCut := false }) h _ _ _ (s.odo.endedForm_roll_le chars)

end KeepsRanges

theorem keepsRanges_keptByParts : KeptByParts KeepsRanges where
  refl := .refl
  trans := .trans
  link _ _ := {}
  pending _ _ := {}
  tick _ := {}
  settle := .settle
  runCommand := .runCommand
  fullReset := .fullReset
  timerExpiry := .timerExpiry
  exposureMidpoint := .exposureMidpoint
  exposureEnd := .exposureEnd
  readoutCompletion := .readoutCompletion
  rowCompletion := .rowCompletion
  trialRowCompletion := .trialRowCompletion
  wallReportSent := .wallReportSent
  markerReportSent := .markerReportSent
  previewTileSent := .previewTileSent
  transition s a b := .odo_set s _ fun h => h.transition a b
  closeWindow s := .odo_set s _ fun h => h.closeWindow
  receiveLine := .receiveLine
  gatherLine _ _ := {}
  lineSent s := .odo_set s _ fun h => h.lineSent
  advisoryRepeat _ := {}

/-- Settles O54: every part of a step keeps each family of ranges, and so does the step. -/
theorem everyStepKeepsRecordsAndMeasuresBounded : Obligations.EveryStepKeepsRecordsAndMeasuresBounded := by
  have kept (s t : State) (h : step s = .next t) : KeepsRanges s t := keepsRanges_keptByParts.step s t h
  refine ⟨fun s t before h => ?_, fun s t strip tables h => ⟨(kept s t h).strip strip, (kept s t h).tables tables⟩,
    fun s t before h => (kept s t h).light before⟩
  obtain ⟨odo, drift⟩ := (measuresWithinBounds_iff s).mp before
  exact (measuresWithinBounds_iff t).mpr ⟨(kept s t h).odo odo, (kept s t h).drift drift⟩

end Sys2Proof.Machine

/-! # The transmitters, the limits of store and queues, and the coherence of the operating state -/

namespace Sys2Proof.Machine

-- With it on, the many small proofs start more threads than the check's limits allow.
set_option Elab.async false

/-! ## The end of a step (R184, R23) -/

/-- What has its turn is on offer. -/
theorem offers_of_turn {s : State} {d : DownStream} (h : turn s = some d) : offers s d = true := by
  unfold turn at h
  split_ifs at h <;> cases h <;> assumption

/-- A stream on offer that is started occupies the downlink. -/
theorem startStream_busy {s : State} {d : DownStream} (h : offers s d = true) :
    (startStream d s).lnk.tx.isSome = true := by
  cases d with
  | wall =>
    cases entries : s.rws.entries with
    | nil => simp [offers, entries] at h
    | cons e rest => simp [startStream, entries]
  | control =>
    cases up : s.odo.up with
    | some m => simp [startStream, up]
    | none =>
      cases queue : s.lnk.controlQueue with
      | nil => simp [offers, up, queue] at h
      | cons i rest => simp [startStream, up, queue]
  | preview =>
    cases preview : s.rws.preview with
    | none => simp [offers, preview] at h
    | some p => simp [startStream, preview]

/-- The arbiter leaves the downlink free when nothing is on offer, and then does nothing. -/
theorem arbitrate_idle {s : State} (h : (arbitrate s).lnk.tx = none) :
    s.lnk.replies = [] ∧ turn s = none ∧ arbitrate s = s := by
  unfold arbitrate at h ⊢
  split at h
  case isTrue busy => simp [h] at busy
  case isFalse =>
    split at h
    · cases h
    · next replies =>
      split at h
      · next next_ =>
        have busy := startStream_busy (offers_of_turn next_)
        simp [h] at busy
      · next none_ => simp_all

/-- The turn is judged by the store, the link and the UP slot. -/
theorem turn_congr {s t : State} (rws : t.rws = s.rws) (lnk : t.lnk = s.lnk) (up : t.odo.up = s.odo.up) :
    turn t = turn s := by
  have same : offers t = offers s := by
    funext d
    cases d <;> simp only [offers, rws, lnk, up]
  simp only [turn, same, lnk]

/-- The port's transmitter stays idle only with no line to send. -/
theorem Odo.portKick_idle {o : Odo} (h : o.portKick.portTx = none) :
    o.portKick.advisoryDue = false ∧ o.portKick.responses = [] := by
  unfold Odo.portKick Odo.portNext at h ⊢
  split at h
  case isTrue busy => simp [h] at busy
  case isFalse =>
    split at h
    · cases h
    · next notDue =>
      split at h
      · cases h
      · simp_all

theorem settled_settle (s : State) : Settled (settle s) := by
  refine ⟨fun idle => ?_, fun idle => ?_⟩
  · obtain ⟨replies, noTurn, same⟩ := arbitrate_idle (s := s) idle
    have link : (settle s).lnk = s.lnk := by unfold settle; rw [same]
    have store : (settle s).rws = s.rws := by unfold settle; rw [same]
    have up : (settle s).odo.up = s.odo.up := by rw [settle_odo, Odo.portKick_frame]
    exact ⟨link ▸ replies, (turn_congr store link up).trans noTurn⟩
  · rw [settle_odo] at idle ⊢
    exact Odo.portKick_idle idle

/-- Every command and every event ends with the transmitters' turn. -/
theorem exec_settles (c : Instr) (s : State) : ∃ u, exec c s = .next (settle u) := by
  cases c <;> exact ⟨_, rfl⟩

/-- Settles O52: every step ends with `settle`, which leaves nothing on offer to an idle transmitter. -/
theorem everyStepLeavesThePartSettled : Obligations.EveryStepLeavesThePartSettled := by
  intro c s t h
  obtain ⟨u, settles⟩ := exec_settles c s
  rw [settles] at h
  exact Host.Outcome.next.inj h ▸ settled_settle u

end Sys2Proof.Machine

namespace Sys2Proof.Machine

-- With it on, the many small proofs start more threads than the check's limits allow.
set_option Elab.async false

/-! ## The advisory level in force (R32) -/

/-- What an operation on ODO keeps: a level that is the one its terms form, and the bound of the response queue. A clause
not given is that of an operation that leaves those fields as they are. -/
structure Odo.KeepsLevel (o o' : Odo) : Prop where
  level : ∀ op, o.level = o.formedLevel op → o'.level = o'.formedLevel op := by exact fun _ => id
  responses : o.responses.length ≤ Config.responseSlots → o'.responses.length ≤ Config.responseSlots := by exact id

namespace Odo.KeepsLevel

theorem refl (o : Odo) : o.KeepsLevel o := {}

theorem trans {o o' o'' : Odo} (h : o.KeepsLevel o') (h' : o'.KeepsLevel o'') : o.KeepsLevel o'' where
  level op := h'.level op ∘ h.level op
  responses := h'.responses ∘ h.responses

theorem transition (o : Odo) (a b : Bool) : o.KeepsLevel (o.transition a b) := by
  unfold Odo.transition
  split
  · exact {}
  · dsimp only
    split <;> exact {}

theorem portNext (o : Odo) (afterAdvisory : Bool) : o.KeepsLevel (o.portNext afterAdvisory) := by
  unfold Odo.portNext
  split
  · exact {}
  · split
    · next queue => exact { responses := fun h => by rw [queue] at h; exact Nat.le_of_succ_le h }
    · exact {}

theorem portKick (o : Odo) : o.KeepsLevel o.portKick := by
  unfold Odo.portKick
  split
  · exact {}
  · exact portNext o false

theorem lineSent (o : Odo) : o.KeepsLevel o.lineSent := by
  unfold Odo.lineSent
  split
  · exact {}
  · exact portNext o false
  · exact portNext o true

/-- A line is queued where the queue has room. -/
theorem respond (o : Odo) (line : List Byte) (room : ¬ Config.responseSlots ≤ o.responses.length) :
    o.KeepsLevel (o.respond line) where
  responses _ := by simpa [Odo.respond] using room

theorem takeLine (o : Odo) (strip : Strip) (frameCounter : Nat) (form : LineForm) :
    o.KeepsLevel (o.takeLine strip frameCounter form) := by
  cases form with
  | malformed | roll v => exact {}
  | marker code =>
    unfold Odo.takeLine Odo.takeMarker
    dsimp only
    split_ifs with full
    · exact {}
    · split
      · exact .trans (o' := { o with up := some _ }) {} (respond _ _ full)
      · exact respond _ _ full
  | query =>
    unfold Odo.takeLine Odo.takeQuery
    dsimp only
    split_ifs with full
    · exact {}
    · split
      · exact .trans (o' := { o with down := none }) {} (respond _ _ full)
      · exact respond _ _ full

end Odo.KeepsLevel

/-! ## The operating state and what follows it (R32, R34, R37, R41, R104) -/

/-- No exposure in flight is a CALIBRATION exposure. -/
def Buffers.NoCalibration (b : Buffers) : Prop := ∀ i r p, b.get i = .exposing r p → r.kind ≠ .calibration

/-- Coherent as R32 to R41 have it; and in UNCONFIGURED no exposure of a calibration is in flight, so that its readout does
not end a calibration there. -/
def Coherent (s : State) : Prop :=
  StateCoherent s ∧ (s.fsq.opState = .unconfigured → s.fsq.buffers.NoCalibration)

/-- What a part must meet to go into an operating state coherently: the loop and the level follow by the change itself. -/
structure FitsFor (s : State) (op : OpState) : Prop where
  timer : s.fsq.timer.isSome = true ↔ op = .calibrating ∨ op = .streaming
  lit : op = .streaming → s.ilc.loop ≠ .dark
  sensor : op = .unconfigured ↔ s.fsq.sensorHeld = false
  stream : op = .streaming → s.strip.held = true ∧ 0 < s.tbu.profile.gen ∧ s.blk.calValid = true
  noCalibration : op = .unconfigured → s.fsq.buffers.NoCalibration

/-- A part whose buffers are coherent runs a calibration's exposure in CALIBRATING alone. -/
theorem coherent_of_buffers {s : State} (h : StateCoherent s) (buffers : BuffersCoherent s) : Coherent s := by
  refine ⟨h, fun unconfigured i r p exposing calibration => ?_⟩
  obtain ⟨-, -, -, fits, -⟩ := buffers
  have fit := fits _ ((Buffers.mem_all _ _).mpr ⟨i, rfl⟩)
  simp [exposing, Buffer.fitsState, calibration, unconfigured] at fit

theorem Buffers.NoCalibration.set {b : Buffers} (h : b.NoCalibration) (i : BufferId) {v : Buffer}
    (hv : ∀ r p, v = .exposing r p → r.kind ≠ .calibration) : (b.set i v).NoCalibration := by
  intro j r p exposing
  by_cases same : j = i
  · subst same
    rw [Buffers.get_set_same] at exposing
    exact hv r p exposing
  · rw [Buffers.get_set_other _ _ _ _ same] at exposing
    exact h j r p exposing

theorem Buffers.noCalibration_free : Buffers.NoCalibration ⟨.free, .free, .free⟩ := by
  intro i r p exposing
  cases i <;> cases exposing

theorem nextGen_pos (gen : Nat) : 0 < nextGen gen := by
  unfold nextGen; split <;> omega

@[simp] theorem bit_true : bit true = 1 := rfl
@[simp] theorem bit_false : bit false = 0 := rfl

@[simp] theorem applyCommit_fsq (i : TableId) (p : CommitPoint) (s : State) : (applyCommit i p s).fsq = s.fsq := by
  rw [applyCommit_frame]

@[simp] theorem completeCalibration_fsq (r : ExposureRecord) (s : State) : (completeCalibration r s).fsq = s.fsq := rfl

/-! ## What an operation keeps of the limits -/

/-- What an operation keeps beside the reply places: the store within its limits; the command queue and the places as they
are; no refusal more; the control queue and the responses within their bounds. A clause not given is that of an operation
that leaves those parts as they are. -/
structure KeepsLimits (s t : State) : Prop where
  store : StoreWithinLimits s → StoreWithinLimits t := by exact id
  cmdQueue : t.lnk.cmdQueue = s.lnk.cmdQueue := by rfl
  places : placesUsed t = placesUsed s := by rfl
  refusals : refusalsWaiting t ≤ refusalsWaiting s := by exact le_rfl
  controlQueue : s.lnk.controlQueue.length ≤ Config.controlSlots → t.lnk.controlQueue.length ≤ Config.controlSlots := by
    exact id
  responses : s.odo.responses.length ≤ Config.responseSlots → t.odo.responses.length ≤ Config.responseSlots := by
    exact id

/-- An operation that keeps the limits, and the operating state coherent. -/
structure Keeps (s t : State) : Prop extends KeepsLimits s t where
  coherent : Coherent s → Coherent t := by exact id

namespace KeepsLimits

theorem refl (s : State) : KeepsLimits s s := {}

theorem trans {s t u : State} (h : KeepsLimits s t) (h' : KeepsLimits t u) : KeepsLimits s u where
  store := h'.store ∘ h.store
  cmdQueue := h'.cmdQueue.trans h.cmdQueue
  places := h'.places.trans h.places
  refusals := h'.refusals.trans h.refusals
  controlQueue := h'.controlQueue ∘ h.controlQueue
  responses := h'.responses ∘ h.responses

end KeepsLimits

namespace Keeps

theorem refl (s : State) : Keeps s s := {}

theorem trans {s t u : State} (h : Keeps s t) (h' : Keeps t u) : Keeps s u where
  toKeepsLimits := h.toKeepsLimits.trans h'.toKeepsLimits
  coherent := h'.coherent ∘ h.coherent

/-! ### Updates of one block -/

theorem odo_set (s : State) {o : Odo} (h : s.odo.KeepsLevel o) : Keeps s { s with odo := o } where
  responses := h.responses
  coherent := fun ⟨⟨timer, loop, level, rest⟩, noCalibration⟩ =>
    ⟨⟨timer, loop, h.level _ level, rest⟩, noCalibration⟩

theorem ilc_set (s : State) {i : Ilc} (h : i.loop = .dark ↔ s.ilc.loop = .dark) : Keeps s { s with ilc := i } where
  coherent := fun ⟨⟨timer, loop, rest⟩, noCalibration⟩ => ⟨⟨timer, h.trans loop, rest⟩, noCalibration⟩

/-- A buffer takes a state that is no CALIBRATION exposure in UNCONFIGURED. -/
theorem buffer_set (s : State) (i : BufferId) {v : Buffer} (f : Fsq) (buffers : f.buffers = s.fsq.buffers.set i v)
    (op : f.opState = s.fsq.opState := by rfl) (timer : f.timer = s.fsq.timer := by rfl)
    (held : f.sensorHeld = s.fsq.sensorHeld := by rfl)
    (hv : s.fsq.opState = .unconfigured → s.fsq.buffers.NoCalibration →
      ∀ r p, v = .exposing r p → r.kind ≠ .calibration := by rintro - - _ _ ⟨⟩) :
    Keeps s { s with fsq := f } where
  coherent := by
    rintro ⟨⟨running, loop, level, sensor, stream⟩, noCalibration⟩
    refine ⟨?_, fun unconfigured => ?_⟩
    · rw [StateCoherent, op, timer, held]
      exact ⟨running, loop, level, sensor, stream⟩
    · dsimp only at unconfigured ⊢
      rw [op] at unconfigured
      rw [buffers]
      exact (noCalibration unconfigured).set i (hv unconfigured (noCalibration unconfigured))

/-- A table replaced by one of its generation, or of a generation in use. -/
theorem table_set (s : State) (i : TableId) (v : TableState) (gen : v.gen = (s.tbu.get i).gen ∨ 0 < v.gen) :
    Keeps s { s with tbu := s.tbu.set i v } where
  places := by simp [placesUsed]
  coherent := by
    rintro ⟨⟨timer, loop, level, sensor, stream⟩, noCalibration⟩
    refine ⟨⟨timer, loop, level, sensor, fun streaming => ?_⟩, noCalibration⟩
    obtain ⟨held, profile, valid⟩ := stream streaming
    refine ⟨held, ?_, valid⟩
    cases i with
    | profile => exact gen.elim (fun same => same ▸ profile) id
    | shade | column => exact profile

/-! ### Operations over the state -/

theorem raise (i : ControlItem) (s : State) : Keeps s (raise i s) where
  cmdQueue := Lnk.raise_cmdQueue ..
  places := by simp [placesUsed]
  refusals := by simp [refusalsWaiting]
  controlQueue := Lnk.raise_length _ _

theorem raiseEvent (e : Event) (s : State) : Keeps s (raiseEvent e s) := raise (.event e) s

/-- The terms may change where the level is formed from them again. -/
theorem reformLevel (s : State) (o : Odo) (responses : o.responses = s.odo.responses) :
    Keeps s { s with odo := o.reformLevel s.fsq.opState } where
  responses := by rw [o.reformLevel_eq, ← responses]; exact id
  coherent := fun ⟨⟨timer, loop, _, rest⟩, noCalibration⟩ =>
    ⟨⟨timer, loop, o.reformLevel_formed _, rest⟩, noCalibration⟩

theorem fillChanged (s : State) : Keeps s (fillChanged s) := reformLevel s { s.odo with storeTerm := _ } rfl

/-- The store gets other entries within the limits; the level follows the fill (R31, R32). -/
theorem rws_set (s : State) (r : Rws)
    (limits : StoreWithinLimits s → r.fill ≤ Config.storeSlots ∧ r.rowCount ≤ Config.rowLimit) :
    Keeps s { s with rws := r } where
  store := limits

theorem storeRow (e : RowEntry) (s : State) (slot : s.rws.rowSlotFree = true) :
    Keeps s (storeEntry (.row e) s) := by
  refine .trans (rws_set s (s.rws.push (.row e)) fun _ => ?_) (fillChanged _)
  simp only [Rws.rowSlotFree, decide_eq_true_eq] at slot
  simpa using ⟨slot.2, slot.1⟩

theorem storeGap (g : GapEntry) (s : State) (slot : s.rws.gapSlotFree = true) :
    Keeps s (storeEntry (.gap g) s) := by
  refine .trans (rws_set s (s.rws.push (.gap g)) fun ⟨_, rows⟩ => ?_) (fillChanged _)
  simp only [Rws.gapSlotFree, decide_eq_true_eq] at slot
  simpa using ⟨slot, rows⟩

/-- A SYNC that is answered gives its place to its reply (R169, R177). -/
theorem answerSync (s : State) : Keeps s (answerSync s) := by
  unfold Machine.answerSync
  split
  · exact refl s
  · next tag parked =>
    split
    · exact refl s
    · exact
        { places := by simp [placesUsed, parked, Nat.add_right_comm]
          refusals := by simp [refusalsWaiting] }

theorem applyCommit (i : TableId) (p : CommitPoint) (s : State) : Keeps s (applyCommit i p s) := by
  unfold Machine.applyCommit
  dsimp only
  split
  · exact refl s
  · split
    · exact ((table_set s i _ (.inr (nextGen_pos _))).trans (raiseEvent ..)).trans (answerSync _)
    · exact ((table_set s i { s.tbu.get i with armed := none } (.inl rfl)).trans (raiseEvent ..)).trans (answerSync _)

theorem applyIdleCommits (s : State) : Keeps s (applyIdleCommits s) := by
  unfold Machine.applyIdleCommits
  dsimp only
  split_ifs
  · exact refl s
  · exact (applyCommit ..).trans (applyCommit ..)
  · exact ((applyCommit ..).trans (applyCommit ..)).trans (applyCommit ..)

theorem applyRenderCommits (n : Nat) (s : State) : Keeps s (applyRenderCommits n s) :=
  (applyCommit ..).trans (applyCommit ..)

end Keeps


namespace KeepsLimits

theorem setOpState (op : OpState) (s : State) : KeepsLimits s (setOpState op s) :=
  .trans (t := { s with
      fsq := { s.fsq with opState := op }, ilc := if op = .streaming then s.ilc else s.ilc.goDark }) {}
    (.trans (Keeps.reformLevel _ _ rfl).toKeepsLimits (Keeps.applyIdleCommits _).toKeepsLimits)

end KeepsLimits

/-- A part that fits an operating state goes into it coherently (R32, R34, R104). -/
theorem FitsFor.setOpState {op : OpState} {s : State} (h : FitsFor s op) : Coherent (setOpState op s) := by
  refine (Keeps.applyIdleCommits _).coherent ⟨⟨h.timer, ?_, Odo.reformLevel_formed _ _, h.sensor, h.stream⟩,
    h.noCalibration⟩
  by_cases streaming : op = .streaming
  · simpa [streaming] using h.lit streaming
  · simp [streaming, Ilc.goDark]

namespace Keeps

/-- An operation ends with a change of operating state for which it has left the part fit. -/
theorem thenSetOpState {s u : State} {op : OpState} (limits : KeepsLimits s u) (fits : Coherent s → FitsFor u op) :
    Keeps s (Machine.setOpState op u) where
  toKeepsLimits := limits.trans (.setOpState op u)
  coherent h := (fits h).setOpState

theorem stopTest (s : State) : Keeps s (stopTest s) := by
  unfold Machine.stopTest
  split
  case isFalse => exact refl s
  case isTrue stopping =>
    refine .trans (thenSetOpState (u := { s with fsq := { s.fsq with holdMark := false } }) {} ?_) (raiseEvent _ _)
    rintro ⟨⟨timer, -, -, sensor, -⟩, -⟩
    obtain ⟨stopping, -⟩ := stopping
    simp only [stopping] at timer sensor
    exact
      { timer := by simpa using timer
        lit := nofun
        sensor := by simpa using sensor
        stream := nofun
        noCalibration := nofun }

/-! ### Exposures -/

theorem startExposure (kind : FrameKind) (i : BufferId) (s : State)
    (hk : kind = .calibration → s.fsq.opState ≠ .unconfigured) : Keeps s (startExposure kind i s) := by
  have synthetic : Keeps s
      { s with odo := if s.odo.odometer.step = 0 then s.odo else s.odo.move s.odo.odometer.step } :=
    odo_set s (by split <;> exact {})
  have counted : ∀ u : State, Keeps u
      { u with fsq := { u.fsq with frameCounter := (u.fsq.frameCounter + 1) % 4294967296 } } := fun _ => {}
  refine (synthetic.trans (counted _)).trans ((applyCommit .column (.exposureStart _) _).trans
    (buffer_set _ i _ rfl (hv := fun unconfigured _ r p latched => ?_)))
  cases latched
  rw [applyCommit_fsq] at unconfigured
  exact fun calibration => hk calibration unconfigured

theorem slip (cause : SlipCause) (s : State) : Keeps s (slip cause s) :=
  .trans (t := { s with fsq := { s.fsq with slipCount := satSucc Config.max16 s.fsq.slipCount } }) {} (raiseEvent _ _)

theorem expiryKind_fits (s : State) (h : expiryKind s = .calibration) : s.fsq.opState ≠ .unconfigured := by
  intro unconfigured
  rw [expiryKind, if_neg (by simp [unconfigured])] at h
  split at h <;> cases h

theorem timerExpiry (s : State) : Keeps s (timerExpiry s) := by
  have expired (u : State) : Keeps u (expire u) := by
    unfold expire
    split
    · exact slip ..
    · split
      · exact slip ..
      · exact startExposure _ _ u (expiryKind_fits u)
  unfold Machine.timerExpiry
  split
  · exact refl s
  · next running =>
    refine .trans { coherent := ?_ } (expired _)
    simp [Coherent, StateCoherent, running]

theorem exposureMidpoint (s : State) : Keeps s (exposureMidpoint s) := by
  unfold Machine.exposureMidpoint
  split
  case h_1 i r inFlight =>
    refine buffer_set s i _ rfl (hv := ?_)
    rintro - none _ _ ⟨⟩
    exact none i r _ (Buffers.get_of_exposure inFlight)
  all_goals exact refl s

theorem exposureEnd (s : State) : Keeps s (exposureEnd s) := by
  unfold Machine.exposureEnd
  split
  case h_1 i r x inFlight =>
    refine buffer_set s i _ rfl (hv := ?_)
    rintro - none _ _ ⟨⟩
    exact none i r _ (Buffers.get_of_exposure inFlight)
  all_goals exact refl s

end Keeps

/-! ## The row store keeps its limits (R142 to R146) -/

/-- A GAP entry put into an entry's place leaves no more row entries. -/
theorem rows_set_gap_le (entries : List Entry) (i : Nat) (g : GapEntry) :
    ((entries.set i (.gap g)).filter Entry.isRow).length ≤ (entries.filter Entry.isRow).length := by
  induction entries generalizing i with
  | nil => exact le_rfl
  | cons e rest ih =>
    cases i with
    | zero => cases e <;> simp [List.filter_cons, Entry.isRow]
    | succ i => cases e <;> simpa [List.filter_cons, Entry.isRow] using ih i

@[simp] theorem Rws.previewDue_entries (r : Rws) (f : Frame) (kind : PreviewKind) :
    (r.previewDue f kind).entries = r.entries := by
  unfold Rws.previewDue; split <;> rfl

@[simp] theorem Rws.previewAtRender_entries (r : Rws) (f : Frame) : (r.previewAtRender f).entries = r.entries := by
  unfold Rws.previewAtRender; split_ifs <;> simp

@[simp] theorem Rws.previewAtTrial_entries (r : Rws) (f : Frame) : (r.previewAtTrial f).entries = r.entries := by
  unfold Rws.previewAtTrial; split_ifs <;> simp

@[simp] theorem Rws.tileSent_entries (r : Rws) : r.tileSent.entries = r.entries := by
  unfold Rws.tileSent; repeat' split
  all_goals rfl

/-- CVT stores a row only where a slot is granted (R132, R133). -/
theorem Cvt.slot_of_decide {c : Cvt} {row e : RowEntry} {slot : Bool} (h : (c.decide row slot).2 = some e) :
    slot = true := by
  cases slot with
  | true => rfl
  | false =>
    unfold Cvt.decide Cvt.take Cvt.retake at h
    split at h <;> simp at h

/-- No update of ILC takes the loop into DARK or out of it (R110, R117). -/
theorem Ilc.onStatistics_dark_iff (i : Ilc) (frameNumber : Nat) (stats : List SectorStat) (trims : List Nat) :
    (i.onStatistics frameNumber stats trims).1.loop = .dark ↔ i.loop = .dark := by
  have countLock (j : Ilc) (clean : Bool) : (j.countLock clean).loop = .dark ↔ j.loop = .dark := by
    unfold Ilc.countLock
    split <;> (try split) <;> simp_all
  unfold Ilc.onStatistics
  split_ifs
  · exact Iff.rfl
  · exact Iff.rfl
  · exact countLock _ _

namespace Keeps

/-- The store's other fields change. -/
theorem rws_entries (s : State) (r : Rws) (entries : r.entries = s.rws.entries) : Keeps s { s with rws := r } :=
  rws_set s r (by rw [Rws.fill, Rws.rowCount, entries]; exact id)

theorem takeGapRange (a b : Int) (n : Nat) (d : Direction) (s : State) : Keeps s (takeGapRange a b n d s) := by
  unfold Machine.takeGapRange
  split
  · exact rws_set s _ fun ⟨fill, rows⟩ => ⟨by simpa [Rws.fill] using fill, (rows_set_gap_le ..).trans rows⟩
  · split
    · next slot => exact storeGap _ s slot
    · dsimp only
      refine .trans ?_ (raiseEvent _ _)
      exact rws_entries s _ rfl

theorem takeGapRanges (ranges : List (Int × Int)) (n : Nat) (d : Direction) (s : State) :
    Keeps s (takeGapRanges ranges n d s) := by
  induction ranges generalizing s with
  | nil => exact refl s
  | cons r rest ih => exact (takeGapRange r.1 r.2 n d s).trans (ih _)

/-! ### Renders -/

/-- GEO begins, the coverage term and the level follow (R30, R32), and the preview counter moves. -/
theorem latchRender (s : State) (g : Geo) (advance ticks : Nat) (r : Rws) (entries : r.entries = s.rws.entries) :
    Keeps s
      { s with geo := g, odo := s.odo.coverageChanged advance ticks s.fsq.opState, rws := r } := by
  have formed : Keeps s { s with odo := s.odo.coverageChanged advance ticks s.fsq.opState } :=
    reformLevel s { s.odo with coverageTerm := coverageTermAfter advance ticks s.odo.coverageTerm } rfl
  exact (formed.trans (rws_entries _ r entries)).trans {}

theorem startRender (i : BufferId) (f : Frame) (rest : List BufferId) (s : State) :
    Keeps s (startRender i f rest s) := by
  have rendering : Keeps s
      { s with fsq := { s.fsq with buffers := s.fsq.buffers.set i (.rendering f), readyOrder := rest } } :=
    buffer_set s i _ rfl
  unfold Machine.startRender
  dsimp only
  refine (rendering.trans (applyRenderCommits f.record.frameNumber _)).trans ?_
  generalize Machine.applyRenderCommits f.record.frameNumber _ = u
  let start := u.cvt.renderStart u.strip.record f.position
  have scanned : Keeps u { u with bcf := (u.bcf.scan f).1, cvt := start.cvt } := {}
  refine (scanned.trans (takeGapRanges start.ranges f.record.frameNumber start.direction _)).trans ?_
  exact latchRender _ _ start.cvt.advance _ _ (Rws.previewAtRender_entries _ f)

theorem tryRenderStart (s : State) : Keeps s (tryRenderStart s) := by
  unfold Machine.tryRenderStart
  split
  · split
    · split
      case h_1 => exact startRender ..
      all_goals exact refl s
    all_goals exact refl s
  · exact refl s

theorem handOn (k : RenderContext) (item : RowItem) (pixels : List Pixel) (s : State) :
    Keeps s (handOn k item pixels s) := by
  cases item with
  | meter sp => exact refl s
  | take n sp =>
    unfold Machine.handOn decideRow
    dsimp only
    split
    · exact {}
    · next e stored => exact .trans (t := { s with cvt := _ }) {} (storeRow e _ (Cvt.slot_of_decide stored))

theorem releaseBuffer (i : BufferId) (f : Frame) (s : State) : Keeps s (releaseBuffer i f s) := by
  unfold Machine.releaseBuffer
  split
  · exact (buffer_set s i (v := .held f) _ rfl).trans (raiseEvent _ _)
  · exact buffer_set s i (v := .free) _ rfl

theorem reportPhaseErrors (s : State) : Keeps s (reportPhaseErrors s) := by
  unfold Machine.reportPhaseErrors
  split
  · exact refl s
  · exact .trans (odo_set s (o := { s.odo with phasePending := 0 }) {}) (raiseEvent _ _)

theorem finishRender (w : RenderWork) (f : Frame) (s : State) : Keeps s (finishRender w f s) := by
  have updated : Keeps s
      { s with ilc := (s.ilc.onStatistics w.context.frameNumber w.stats w.context.trims).1, geo := .idle } :=
    (ilc_set s (s.ilc.onStatistics_dark_iff ..)).trans {}
  exact ((updated.trans (releaseBuffer w.buffer f _)).trans (raise _ _)).trans
    (((reportPhaseErrors _).trans (tryRenderStart _)).trans (stopTest _))

theorem rowCompletion (s : State) : Keeps s (rowCompletion s) := by
  unfold Machine.rowCompletion completeRow
  split
  case h_1 w geo =>
    split
    case h_2 => exact refl s
    case h_1 item f _ _ =>
      dsimp only
      split
      · exact (handOn ..).trans (finishRender ..)
      · exact (handOn ..).trans {}
  all_goals exact refl s

theorem storeTrialRow (w : TrialWork) (e : RowEntry) (s : State) (slot : s.rws.rowSlotFree = true) :
    Keeps s (storeTrialRow w e s) := by
  unfold Machine.storeTrialRow
  dsimp only
  split
  · exact (storeRow e s slot).trans (.trans (t := { Machine.storeEntry (.row e) s with geo := .idle }) {} (raiseEvent _ _))
  · exact (storeRow e s slot).trans {}

theorem trialRowCompletion (s : State) : Keeps s (trialRowCompletion s) := by
  unfold Machine.trialRowCompletion offerTrialRow
  split
  case h_1 w geo =>
    split
    · split
      · next slot => exact storeTrialRow _ _ s slot
      · exact {}
    · exact refl s
  all_goals exact refl s

theorem resumeTrial (s : State) : Keeps s (resumeTrial s) := by
  unfold Machine.resumeTrial
  split
  case h_1 =>
    split
    · next slot => exact storeTrialRow _ _ s slot
    · exact refl s
  all_goals exact refl s

/-! ### The ends of transmissions -/

/-- The downlink is freed of a message that is no reply. -/
theorem freeDownlink (s : State) (noReply : s.lnk.tx.any Outgoing.isPlacedReply = false) :
    Keeps s (freeDownlink s) where
  places := by simp [placesUsed, noReply]

theorem wallReportSent (s : State) : Keeps s (wallReportSent s) := by
  unfold Machine.wallReportSent
  split
  case h_2 => exact refl s
  case h_1 tx =>
    refine ((freeDownlink s (by simp [tx, Outgoing.isPlacedReply])).trans (rws_set _ s.rws.wallSent ?_)).trans
      ((fillChanged _).trans (resumeTrial _))
    rintro ⟨fill, rows⟩
    unfold Rws.wallSent
    split
    · refine ⟨?_, le_trans ?_ rows⟩
      · simp only [freeDownlink_rws, Rws.fill] at fill
        simp only [Rws.fill, List.length_drop]; omega
      · exact ((List.drop_sublist 1 _).filter _).length_le
    · exact ⟨fill, rows⟩

theorem markerReportSent (s : State) : Keeps s (markerReportSent s) := by
  unfold Machine.markerReportSent
  split
  · next tx => exact (freeDownlink s (by simp [tx, Outgoing.isPlacedReply])).trans {}
  · exact refl s

theorem controlItemSent (s : State) : Keeps s (controlItemSent s) := by
  unfold Machine.controlItemSent
  split
  · next tx => exact freeDownlink s (by simp [tx, Outgoing.isPlacedReply])
  · exact refl s

theorem previewTileSent (s : State) : Keeps s (previewTileSent s) := by
  unfold Machine.previewTileSent
  split
  · next tx =>
    exact (freeDownlink s (by simp [tx, Outgoing.isPlacedReply])).trans (rws_entries _ _ (Rws.tileSent_entries _))
  · exact refl s

/-! ### Readouts and calibrations -/

theorem measureDark (s : State) (column : List Nat) (rows : List (List Nat)) :
    Keeps s { s with blk := s.blk.measureDark column rows } := by
  unfold Blk.measureDark
  split <;> exact {}

/-- The readout of a calibration's exposure, its buffer freed; the part is in use, for in UNCONFIGURED none is in flight. -/
theorem calibrationReadout (r : ExposureRecord) (rows : List (List Nat)) (s : State) (i : BufferId) (p : ExposurePhase)
    (inFlight : s.fsq.buffers.get i = .exposing r p) (calibration : r.kind = .calibration) :
    Keeps s (calibrationReadout r rows { s with fsq := { s.fsq with buffers := s.fsq.buffers.set i .free } }) := by
  have freed : Keeps s { s with fsq := { s.fsq with buffers := s.fsq.buffers.set i .free } } :=
    buffer_set s i (v := .free) _ rfl
  unfold Machine.calibrationReadout
  dsimp only
  split
  · refine thenSetOpState (.trans freed.toKeepsLimits (.trans (t := _) {} (raiseEvent _ _).toKeepsLimits)) ?_
    rintro ⟨⟨-, -, -, sensor, -⟩, noCalibration⟩
    have inUse : s.fsq.opState ≠ .unconfigured := fun h => noCalibration h i r p inFlight calibration
    have held : s.fsq.sensorHeld ≠ false := mt sensor.mpr inUse
    exact
      { timer := by simp
        lit := nofun
        sensor := by simpa using held
        stream := nofun
        noCalibration := nofun }
  · exact freed.trans (.trans (t := _) {} (applyIdleCommits _))

theorem streamReadout (i : BufferId) (f : Frame) (s : State) : Keeps s (streamReadout i f s) := by
  unfold Machine.streamReadout
  split
  · exact (buffer_set s i (v := .ready f) _ rfl).trans (tryRenderStart _)
  · exact (buffer_set s i (v := .free) _ rfl).trans ((applyIdleCommits _).trans (stopTest _))

theorem readoutCompletion (raw : List (List Sample)) (s : State) : Keeps s (readoutCompletion raw s) := by
  unfold Machine.readoutCompletion
  split
  case h_1 i r x inFlight =>
    have freed : Keeps s { s with fsq := { s.fsq with buffers := s.fsq.buffers.set i .free } } := buffer_set s i _ rfl
    dsimp only
    split
    · exact streamReadout ..
    · exact (freed.trans (measureDark _ s.tbu.column.active _)).trans
        ((applyIdleCommits _).trans ((tryRenderStart _).trans (stopTest _)))
    · next calibration => exact calibrationReadout r _ s i _ (Buffers.get_of_exposure inFlight) calibration
    · exact (buffer_set s i (v := .held _) _ rfl).trans ((applyIdleCommits _).trans (raiseEvent _ _))
  all_goals exact refl s

end Keeps


/-! ## The commands keep the limits and the coherence -/

namespace Keeps

theorem cmdSensor (r : SensorFields) (s : State) : Keeps s (cmdSensor r s).1 := by
  unfold Machine.cmdSensor
  split
  case isTrue => exact refl s
  case isFalse allowed =>
    split
    · exact refl s
    · dsimp only
      split
      · exact refl s
      · split
        · exact refl s
        · dsimp only
          split
          case isTrue unconfigured =>
            refine thenSetOpState {} ?_
            rintro ⟨⟨timer, -⟩, -⟩
            exact
              { timer := by simpa [unconfigured] using timer
                lit := nofun
                sensor := by simp
                stream := nofun
                noCalibration := nofun }
          case isFalse configured =>
            have idle : s.fsq.opState = .idle := by tauto
            exact { coherent := by simp [Coherent, StateCoherent, idle]; tauto }

theorem cmdStrip (r : StripFields) (s : State) : Keeps s (cmdStrip r s).1 := by
  unfold Machine.cmdStrip
  split
  · exact refl s
  · split
    · exact refl s
    · refine { coherent := fun ⟨⟨timer, loop, level, sensor, stream⟩, noCalibration⟩ => ?_ }
      exact ⟨⟨timer, loop, level, sensor, fun streaming => ⟨rfl, (stream streaming).2⟩⟩, noCalibration⟩

theorem cmdLight (r : LightFields) (s : State) : Keeps s (cmdLight r s).1 := by
  unfold Machine.cmdLight
  split <;> exact {}

theorem cmdCentre (r : CentreFields) (s : State) : Keeps s (cmdCentre r s).1 := by
  unfold Machine.cmdCentre
  split
  · exact refl s
  · split <;> exact {}

theorem cmdOdometer (r : OdometerFields) (s : State) : Keeps s (cmdOdometer r s).1 := by
  unfold Machine.cmdOdometer
  split_ifs <;> exact {}

theorem cmdDark (n : Half) (s : State) : Keeps s (cmdDark n s).1 := by
  unfold Machine.cmdDark
  split <;> exact {}

theorem cmdAdvisory (r : AdvisoryFields) (s : State) : Keeps s (cmdAdvisory r s).1 := by
  unfold Machine.cmdAdvisory
  split_ifs
  · exact refl s
  · dsimp only
    refine .trans ?_ (fillChanged _)
    exact {}
  · exact refl s

theorem cmdPreview (n : Half) (s : State) : Keeps s (cmdPreview n s).1 := by
  unfold Machine.cmdPreview
  split <;> exact {}

theorem cmdPreset (position : Word) (s : State) : Keeps s (cmdPreset position s).1 := by
  unfold Machine.cmdPreset
  split_ifs <;> exact {}

theorem cmdTableWrite (table : Byte) (start : Half) (values : List Half) (s : State) :
    Keeps s (cmdTableWrite table start values s).1 := by
  unfold Machine.cmdTableWrite
  split
  · exact refl s
  · split
    · exact refl s
    · exact table_set s _ _ (.inl rfl)

theorem cmdTableRead (table copy : Byte) (start count : Half) (s : State) :
    Keeps s (cmdTableRead table copy start count s).1 := by
  unfold Machine.cmdTableRead
  repeat' split
  all_goals exact refl s

theorem cmdCommit (table : Byte) (expected : Half) (s : State) : Keeps s (cmdCommit table expected s).1 := by
  unfold Machine.cmdCommit
  split
  · exact refl s
  · next i _ =>
    dsimp only
    split_ifs
    · exact refl s
    · exact refl s
    · exact (table_set s i { s.tbu.get i with armed := some expected.toNat } (.inl rfl)).trans (applyIdleCommits _)

theorem cmdCalibrate (s : State) : Keeps s (cmdCalibrate s).1 := by
  unfold Machine.cmdCalibrate
  split_ifs with idle
  · exact refl s
  · exact refl s
  · dsimp only
    refine thenSetOpState {} ?_
    rintro ⟨⟨-, -, -, sensor, -⟩, -⟩
    rw [not_not] at idle
    exact
      { timer := by simp
        lit := nofun
        sensor := by simpa [idle] using sensor
        stream := nofun
        noCalibration := nofun }

theorem cmdStart (s : State) : Keeps s (cmdStart s).1 := by
  unfold Machine.cmdStart
  split_ifs with idle strip profile calibrated
  case neg =>
    dsimp only
    refine thenSetOpState {} ?_
    rintro ⟨⟨-, -, -, sensor, -⟩, -⟩
    rw [not_not] at idle
    exact
      { timer := by simp [startEffects]
        lit := by simp [startEffects, Ilc.atStart]
        sensor := by simpa [idle, startEffects] using sensor
        stream := fun _ => ⟨by simpa using strip, Nat.pos_of_ne_zero profile, by simpa [startEffects] using calibrated⟩
        noCalibration := nofun }
  all_goals exact refl s

theorem keepDelivered (s : State) : Keeps s (keepDelivered s) := by
  unfold Machine.keepDelivered
  split
  · split <;> exact {}
  all_goals exact refl s

theorem stopCalibration (s : State) (calibrating : s.fsq.opState = .calibrating) : Keeps s (stopCalibration s) := by
  have kept := keepDelivered s
  have same : (Machine.keepDelivered s).fsq = s.fsq := by
    unfold Machine.keepDelivered
    split
    · split <;> rfl
    all_goals rfl
  unfold Machine.stopCalibration
  refine thenSetOpState (kept.toKeepsLimits.trans (.trans (t := { Machine.keepDelivered s with
    fsq := (Machine.keepDelivered s).fsq.abandonExposures }) {} (raiseEvent _ _).toKeepsLimits)) ?_
  rintro ⟨⟨-, -, -, sensor, -⟩, -⟩
  exact
    { timer := by simp [Fsq.abandonExposures]
      lit := nofun
      sensor := by simpa [calibrating, same, Fsq.abandonExposures] using sensor
      stream := nofun
      noCalibration := nofun }

theorem stopStream (s : State) (streaming : s.fsq.opState = .streaming) : Keeps s (stopStream s) := by
  refine .trans (thenSetOpState {} ?_) (stopTest _)
  rintro ⟨⟨-, -, -, sensor, -⟩, -⟩
  exact
    { timer := by simp
      lit := nofun
      sensor := by simpa [streaming] using sensor
      stream := nofun
      noCalibration := nofun }

theorem cmdStop (s : State) : Keeps s (cmdStop s).1 := by
  unfold Machine.cmdStop
  split
  case h_3 calibrating => exact stopCalibration s calibrating
  case h_4 streaming => exact stopStream s streaming
  all_goals exact refl s

theorem cmdRelight (s : State) : Keeps s (cmdRelight s).1 := by
  unfold Machine.cmdRelight
  split
  case isTrue => exact refl s
  case isFalse streaming =>
    rw [not_not] at streaming
    refine { coherent := fun ⟨⟨timer, _, rest⟩, noCalibration⟩ => ⟨⟨timer, ?_, rest⟩, noCalibration⟩ }
    simp [Ilc.relight, Ilc.atStart, streaming]

theorem cmdHold (s : State) : Keeps s (cmdHold s).1 := by
  unfold Machine.cmdHold
  dsimp only
  split
  case h_4 => split_ifs <;> exact {}
  case h_5 =>
    split_ifs
    · exact refl s
    · split
      · exact startExposure _ _ s nofun
      · exact refl s
  all_goals exact refl s

theorem cmdRelease (s : State) : Keeps s (cmdRelease s).1 := by
  unfold Machine.cmdRelease
  split
  · exact refl s
  · split
    · next i _ _ =>
      split
      · exact refl s
      · exact buffer_set s i (v := .free) _ rfl
    · split_ifs <;> exact {}

theorem cmdRerender (s : State) : Keeps s (cmdRerender s).1 := by
  unfold Machine.cmdRerender
  split
  · exact refl s
  · split
    · exact refl s
    · split
      · exact refl s
      · split
        · exact refl s
        · next i f _ =>
          split
          · exact refl s
          · exact .trans (rws_entries s _ (Rws.previewAtTrial_entries s.rws f)) {}

theorem cmdNote (text : List Byte) (s : State) : Keeps s (cmdNote text s).1 := by
  unfold Machine.cmdNote
  split
  · exact refl s
  · split <;> exact {}

theorem resetCalibration (s : State) : Keeps s (resetCalibration s) := by
  unfold Machine.resetCalibration
  split
  · exact (keepDelivered s).trans (raiseEvent _ _)
  · exact refl s

theorem resetStream (s : State) : Keeps s (resetStream s) := by
  unfold Machine.resetStream
  dsimp only
  have emptied : Keeps s { s with lnk := { s.lnk with controlQueue := [] } } :=
    { controlQueue := fun _ => Nat.zero_le _ }
  refine (emptied.trans (resetCalibration _)).trans ?_
  generalize Machine.resetCalibration _ = u
  refine thenSetOpState { store := fun _ => ⟨Nat.zero_le _, Nat.zero_le _⟩ } fun _ => ?_
  exact
    { timer := by cases u.fsq.sensorHeld <;> simp [Fsq.resetStream]
      lit := by cases u.fsq.sensorHeld <;> simp
      sensor := by cases held : u.fsq.sensorHeld <;> simp [Fsq.resetStream, held]
      stream := by cases u.fsq.sensorHeld <;> simp
      noCalibration := fun _ => Buffers.noCalibration_free }

end Keeps

end Sys2Proof.Machine

namespace Sys2Proof.Machine

-- With it on, the many small proofs start more threads than the check's limits allow.
set_option Elab.async false

/-! ## The end of a step keeps them (R184, R185) -/

theorem Keeps.arbitrate (s : State) : Keeps s (arbitrate s) := by
  unfold Machine.arbitrate
  split
  case isTrue => exact .refl s
  case isFalse free =>
    rw [Option.not_isSome_iff_eq_none] at free
    split
    · next r rest replies =>
      exact
        { places := by cases refusal : r.refusal <;> simp [placesUsed, free, replies, refusal, Outgoing.isPlacedReply]
          refusals := by simpa [refusalsWaiting, replies] using ((List.sublist_cons_self r rest).filter _).length_le }
    · split
      case h_2 => exact .refl s
      case h_1 d _ =>
        unfold startStream
        split
        · split
          · exact .refl s
          · exact { places := by simp [placesUsed, free, Outgoing.isPlacedReply] }
        · split
          · exact { places := by simp [placesUsed, free, Outgoing.isPlacedReply] }
          · split
            · exact .refl s
            · next queue =>
              exact
                { places := by simp [placesUsed, free, Outgoing.isPlacedReply]
                  controlQueue := by rw [queue]; exact Nat.le_of_succ_le }
        · split
          · exact .refl s
          · exact { places := by simp [placesUsed, free, Outgoing.isPlacedReply] }

theorem Keeps.settle (s : State) : Keeps s (settle s) :=
  (Keeps.arbitrate s).trans (.odo_set _ (.portKick _))

/-! ## Every step keeps the store within its limits and the state coherent -/

/-- What a step keeps whatever the link does. -/
structure KeepsStanding (s t : State) : Prop where
  store : StoreWithinLimits s → StoreWithinLimits t := by exact id
  coherent : Coherent s → Coherent t := by exact id

theorem Keeps.standing {s t : State} (h : Keeps s t) : KeepsStanding s t := ⟨h.store, h.coherent⟩

theorem coherent_powerOn (lineA lineB lineCut : Bool) (freeIx : Nat) (pending : List Instr) :
    Coherent (State.powerOn lineA lineB lineCut freeIx pending) :=
  ⟨⟨by simp [State.powerOn, Fsq.reset], by simp [State.powerOn, Fsq.reset, Ilc.reset], rfl,
    by simp [State.powerOn, Fsq.reset], nofun⟩, fun _ => Buffers.noCalibration_free⟩

namespace KeepsStanding

theorem fullReset (s : State) : KeepsStanding s (fullReset s) where
  store _ := ⟨Nat.zero_le _, Nat.zero_le _⟩
  coherent _ := coherent_powerOn ..

theorem answer (tag : Byte) {s : State} {r : State × Answer} (h : KeepsStanding s r.1) :
    KeepsStanding s (answer tag r) := ⟨h.store, h.coherent⟩

theorem cmdSync (tag : Byte) (s : State) : KeepsStanding s (answerOrPark tag (cmdSync tag s)) := by
  unfold Machine.cmdSync
  split_ifs <;> exact {}

end KeepsStanding

/-- What every command but SYNC and RESET FULL does, and its answer (R175). -/
inductive Answered (tag : Byte) (s : State) : State → Prop where
  | of {r : State × Answer} (keeps : Keeps s r.1) : Answered tag s (answer tag r)

theorem runCommand_answered (tag : Byte) (c : Command) (s : State) :
    Answered tag s (runCommand tag c s) ∨ runCommand tag c s = answerOrPark tag (cmdSync tag s)
      ∨ runCommand tag c s = answer tag (fullReset s, .ok) := by
  cases c with
  | sync => exact .inr (.inl rfl)
  | resetFull => exact .inr (.inr rfl)
  | unknown _ | malformed | identify _ | status => exact .inl (.of (.refl s))
  | sensor r => exact .inl (.of (.cmdSensor r s))
  | strip r => exact .inl (.of (.cmdStrip r s))
  | light r => exact .inl (.of (.cmdLight r s))
  | centre r => exact .inl (.of (.cmdCentre r s))
  | odometer r => exact .inl (.of (.cmdOdometer r s))
  | dark n => exact .inl (.of (.cmdDark n s))
  | advisory r => exact .inl (.of (.cmdAdvisory r s))
  | preview n => exact .inl (.of (.cmdPreview n s))
  | preset x => exact .inl (.of (.cmdPreset x s))
  | tableWrite table start values => exact .inl (.of (.cmdTableWrite table start values s))
  | tableRead table copy start count => exact .inl (.of (.cmdTableRead table copy start count s))
  | commit table expected => exact .inl (.of (.cmdCommit table expected s))
  | calibrate => exact .inl (.of (.cmdCalibrate s))
  | start => exact .inl (.of (.cmdStart s))
  | stop => exact .inl (.of (.cmdStop s))
  | relight => exact .inl (.of (.cmdRelight s))
  | hold => exact .inl (.of (.cmdHold s))
  | release => exact .inl (.of (.cmdRelease s))
  | rerender => exact .inl (.of (.cmdRerender s))
  | note text => exact .inl (.of (.cmdNote text s))
  | resetStream => exact .inl (.of (.resetStream s))

theorem KeepsStanding.runCommand (tag : Byte) (c : Command) (s : State) : KeepsStanding s (runCommand tag c s) := by
  rcases runCommand_answered tag c s with h | h | h
  · generalize Machine.runCommand tag c s = t at h
    obtain ⟨keeps⟩ := h
    exact .answer tag keeps.standing
  · exact h ▸ .cmdSync tag s
  · exact h ▸ .answer tag (.fullReset s)

theorem keepsStanding_keptByParts : KeptByParts KeepsStanding where
  refl _ := {}
  trans h h' := ⟨h'.store ∘ h.store, h'.coherent ∘ h.coherent⟩
  link _ _ := {}
  pending _ _ := {}
  tick _ := {}
  settle s := (Keeps.settle s).standing
  runCommand := .runCommand
  fullReset := .fullReset
  timerExpiry s := (Keeps.timerExpiry s).standing
  exposureMidpoint s := (Keeps.exposureMidpoint s).standing
  exposureEnd s := (Keeps.exposureEnd s).standing
  readoutCompletion raw s := (Keeps.readoutCompletion raw s).standing
  rowCompletion s := (Keeps.rowCompletion s).standing
  trialRowCompletion s := (Keeps.trialRowCompletion s).standing
  wallReportSent s := (Keeps.wallReportSent s).standing
  markerReportSent s := (Keeps.markerReportSent s).standing
  previewTileSent s := (Keeps.previewTileSent s).standing
  transition s a b := (Keeps.odo_set s (.transition s.odo a b)).standing
  closeWindow s := (Keeps.odo_set s (o := s.odo.closeWindow) {}).standing
  receiveLine chars s :=
    (Keeps.odo_set s (.trans (o' := { s.odo with lineBuf := [], lineCut := false }) {} (.takeLine ..))).standing
  gatherLine _ _ := {}
  lineSent s := (Keeps.odo_set s (.lineSent s.odo)).standing
  advisoryRepeat _ := {}

/-- Settles O56: with coherent buffers the state is coherent in the stronger sense, which every part of a step keeps. -/
theorem everyStepKeepsTheStateCoherent : Obligations.EveryStepKeepsTheStateCoherent := by
  intro s t coherent buffers h
  have ⟨kept, _⟩ := (keepsStanding_keptByParts.step s t h).coherent (coherent_of_buffers coherent buffers)
  exact kept

/-! ## The command queue and the reply places (R176, R177) -/

/-- The queues within their limits while commands are being taken: one that waits need not wait for a place yet. -/
structure QueuesBounded (s : State) : Prop where
  cmdQueue : s.lnk.cmdQueue.length ≤ Config.commandSlots
  places : placesUsed s ≤ Config.replyPlaces
  refusals : refusalsWaiting s ≤ Config.refusalSlots
  controlQueue : s.lnk.controlQueue.length ≤ Config.controlSlots
  responses : s.odo.responses.length ≤ Config.responseSlots

/-- A command waits only while every place is used. -/
def WaitsForPlace (s : State) : Prop := s.lnk.cmdQueue ≠ [] → placesUsed s = Config.replyPlaces

theorem queuesWithinLimits_iff (s : State) : QueuesWithinLimits s ↔ QueuesBounded s ∧ WaitsForPlace s := by
  constructor
  · rintro ⟨cmdQueue, places, waits, refusals, controlQueue, responses⟩
    exact ⟨⟨cmdQueue, places, refusals, controlQueue, responses⟩, waits⟩
  · rintro ⟨⟨cmdQueue, places, refusals, controlQueue, responses⟩, waits⟩
    exact ⟨cmdQueue, places, waits, refusals, controlQueue, responses⟩

theorem QueuesBounded.of_keeps {s t : State} (h : QueuesBounded s) (keeps : KeepsLimits s t) : QueuesBounded t where
  cmdQueue := keeps.cmdQueue ▸ h.cmdQueue
  places := keeps.places ▸ h.places
  refusals := keeps.refusals.trans h.refusals
  controlQueue := keeps.controlQueue h.controlQueue
  responses := keeps.responses h.responses

/-- An operation that keeps the limits leaves what waits and the places as they are. -/
theorem KeepsLimits.queues {s t : State} (keeps : KeepsLimits s t) (h : QueuesWithinLimits s) : QueuesWithinLimits t := by
  rw [queuesWithinLimits_iff] at h ⊢
  obtain ⟨bounded, waits⟩ := h
  refine ⟨bounded.of_keeps keeps, ?_⟩
  rw [WaitsForPlace, keeps.cmdQueue, keeps.places]
  exact waits

theorem placesUsed_putReply (r : Reply) (s : State) :
    placesUsed (putReply r s) = placesUsed s + bit (!r.refusal) := by
  cases refusal : r.refusal <;> simp [placesUsed, refusal]; omega

theorem queuesBounded_fullReset (s : State) : QueuesBounded (fullReset s) ∧ placesUsed (fullReset s) = 0 :=
  ⟨⟨Nat.zero_le _, Nat.zero_le _, Nat.zero_le _, Nat.zero_le _, Nat.zero_le _⟩, rfl⟩

/-- An answer takes one place more. -/
theorem QueuesBounded.answer {r : State × Answer} (tag : Byte) (h : QueuesBounded r.1)
    (place : placesUsed r.1 < Config.replyPlaces) : QueuesBounded (answer tag r) where
  cmdQueue := h.cmdQueue
  places := by
    rw [Machine.answer, placesUsed_putReply]
    simpa using place
  refusals := by simpa [refusalsWaiting] using h.refusals
  controlQueue := h.controlQueue
  responses := h.responses

/-- A command in hand takes at most one place, and adds nothing to the command queue. -/
theorem QueuesBounded.runCommand {s : State} (h : QueuesBounded s) (tag : Byte) (c : Command)
    (place : placesUsed s < Config.replyPlaces) :
    QueuesBounded (runCommand tag c s) ∧ (runCommand tag c s).lnk.cmdQueue.length ≤ s.lnk.cmdQueue.length := by
  rcases runCommand_answered tag c s with e | e | e
  · generalize Machine.runCommand tag c s = t at e
    obtain ⟨keeps⟩ := e
    refine ⟨(h.of_keeps keeps.toKeepsLimits).answer tag (keeps.places ▸ place), ?_⟩
    rw [answer_lnk, Lnk.putReply_cmdQueue, keeps.cmdQueue]
  · rw [e]
    unfold cmdSync
    split_ifs
    · exact ⟨h.answer (r := (s, _)) tag place, le_rfl⟩
    · next free _ =>
      refine ⟨⟨h.cmdQueue, ?_, h.refusals, h.controlQueue, h.responses⟩, le_rfl⟩
      simpa [placesUsed, answerOrPark, free] using place
    · exact ⟨h.answer (r := (s, _)) tag place, le_rfl⟩
  · rw [e]
    obtain ⟨bounded, none⟩ := queuesBounded_fullReset s
    exact ⟨bounded.answer (r := (fullReset s, _)) tag (by rw [none]; decide), Nat.zero_le _⟩

/-- Commands are taken until none waits or no place is free. -/
theorem queuesWithinLimits_takeUpTo (n : Nat) (s : State) (h : QueuesBounded s) (all : s.lnk.cmdQueue.length ≤ n) :
    QueuesWithinLimits (takeUpTo n s) := by
  rw [queuesWithinLimits_iff]
  induction n generalizing s with
  | zero => exact ⟨h, fun waits => absurd (List.length_eq_zero_iff.mp (Nat.le_zero.mp all)) waits⟩
  | succ n ih =>
    by_cases place : placesUsed s < Config.replyPlaces
    case neg =>
      rw [takeUpTo_full _ _ (not_lt.mp place)]
      exact ⟨h, fun _ => le_antisymm h.places (not_lt.mp place)⟩
    case pos =>
      cases queue : s.lnk.cmdQueue with
      | nil =>
        rw [takeUpTo_nil _ _ queue]
        exact ⟨h, fun waits => absurd queue waits⟩
      | cons w rest =>
        rw [takeUpTo_succ n s w rest queue place]
        have shorter : rest.length < s.lnk.cmdQueue.length := by simp [queue]
        have rested : QueuesBounded { s with lnk := { s.lnk with cmdQueue := rest } } :=
          ⟨shorter.le.trans h.cmdQueue, h.places, h.refusals, h.controlQueue, h.responses⟩
        obtain ⟨bounded, notLonger⟩ := rested.runCommand w.tag w.command place
        exact ih _ bounded (notLonger.trans (Nat.le_of_lt_succ (shorter.trans_le all)))

theorem queuesWithinLimits_deliver (w : Waiting) (s : State) (h : QueuesWithinLimits s) :
    QueuesWithinLimits (deliver w s) := by
  obtain ⟨bounded, waits⟩ := (queuesWithinLimits_iff s).mp h
  unfold deliver
  split
  case isTrue room =>
    refine queuesWithinLimits_takeUpTo _ _ ⟨?_, bounded.places, bounded.refusals, bounded.controlQueue,
      bounded.responses⟩ le_rfl
    simpa using room
  case isFalse =>
    unfold refuse
    dsimp only
    split
    case isFalse => exact h
    case isTrue room =>
      refine (queuesWithinLimits_iff _).mpr ⟨⟨bounded.cmdQueue, ?_, ?_, bounded.controlQueue, bounded.responses⟩, ?_⟩
      · rw [placesUsed_putReply]
        exact bounded.places
      · simpa [refusalsWaiting] using room
      · intro waiting
        rw [placesUsed_putReply]
        exact waits waiting

theorem queuesWithinLimits_feedByte (s : State) (b : Byte) (h : QueuesWithinLimits s) :
    QueuesWithinLimits (feedByte s b) := by
  unfold feedByte
  split
  · exact h
  · exact h
  · unfold headerByte lengthKnown
    split
    · split_ifs <;> exact h
    · exact h
  · unfold payloadByte
    split_ifs <;> exact h
  · unfold crcBytes judge
    split
    · exact h
    · split_ifs
      · exact queuesWithinLimits_deliver _ _ h
      · exact h

theorem queuesWithinLimits_feedBytes (bytes : List Byte) (s : State) (h : QueuesWithinLimits s) :
    QueuesWithinLimits (feedBytes bytes s) := by
  induction bytes generalizing s with
  | nil => exact h
  | cons b rest ih => exact ih _ (queuesWithinLimits_feedByte s b h)

/-- A reply that has gone out frees its place, and the commands that wait are taken. -/
theorem queuesWithinLimits_replySent (s : State) (h : QueuesWithinLimits s) : QueuesWithinLimits (replySent s) := by
  unfold replySent
  split
  case h_2 => exact h
  case h_1 =>
    obtain ⟨bounded, -⟩ := (queuesWithinLimits_iff s).mp h
    refine queuesWithinLimits_takeUpTo _ _ ⟨bounded.cmdQueue, le_trans ?_ bounded.places, bounded.refusals,
      bounded.controlQueue, bounded.responses⟩ le_rfl
    simp [placesUsed]

theorem queuesWithinLimits_silence (s : State) (h : QueuesWithinLimits s) : QueuesWithinLimits (silence s) := by
  unfold silence
  split <;> exact h

/-- Every command and every event keeps the queues within their limits. -/
theorem queuesWithinLimits_exec (c : Instr) (s t : State) (h : QueuesWithinLimits s) (e : exec c s = .next t) :
    QueuesWithinLimits t := by
  have settled {u : State} (e : (.next (settle u) : Host.Outcome State Fault Refusal) = .next t)
      (h : QueuesWithinLimits u) : QueuesWithinLimits t :=
    Host.Outcome.next.inj e ▸ (Keeps.settle u).queues h
  have keeps {u : State} (e : (.next (settle u) : Host.Outcome State Fault Refusal) = .next t) (k : Keeps s u) :
      QueuesWithinLimits t := settled e (k.queues h)
  have line (chars : List LineChar) : Keeps s (receiveLine chars s) :=
    .odo_set s (.trans (o' := { s.odo with lineBuf := [], lineCut := false }) {} (.takeLine ..))
  cases c
  case powerOnReset =>
    obtain ⟨bounded, -⟩ := queuesBounded_fullReset s
    exact settled e ((queuesWithinLimits_iff _).mpr ⟨bounded, fun waits => absurd rfl waits⟩)
  case acceptedMessage bytes => exact settled e (queuesWithinLimits_feedBytes bytes s h)
  case headerLengthFault => exact settled e (queuesWithinLimits_feedBytes _ s h)
  case silence => exact settled e (queuesWithinLimits_silence s h)
  case replyTransmitted => exact settled e (queuesWithinLimits_replySent s h)
  case frameTimerExpiry => exact keeps e (.timerExpiry s)
  case exposureMidpoint => exact keeps e (.exposureMidpoint s)
  case exposureEnd => exact keeps e (.exposureEnd s)
  case readoutCompletion raw => exact keeps e (.readoutCompletion raw s)
  case rowCompletion => exact keeps e (.rowCompletion s)
  case trialRowCompletion => exact keeps e (.trialRowCompletion s)
  case wallReportTransmitted => exact keeps e (.wallReportSent s)
  case markerReportTransmitted => exact keeps e (.markerReportSent s)
  case controlItemTransmitted => exact keeps e (.controlItemSent s)
  case previewTileTransmitted => exact keeps e (.previewTileSent s)
  case quadratureTransition a b => exact keeps e (.odo_set s (.transition s.odo a b))
  case speedWindowExpiry => exact keeps e {}
  case rollLine => exact keeps e (line _)
  case markerLine => exact keeps e (line _)
  case qLine => exact keeps e (line _)
  case malformedLine part =>
    refine keeps e ?_
    split
    · exact line _
    · exact {}
  case portLineTransmitted => exact keeps e (.odo_set s (.lineSent s.odo))
  case advisoryRepeatExpiry => exact keeps e {}
  -- What remains are the rows of the host's commands: each is its command delivered.
  all_goals exact settled e (queuesWithinLimits_deliver _ s h)

/-- Settles O53: every part of a step keeps the store's limits, and every command and event the queues'. -/
theorem everyStepKeepsTheStoreAndQueueLimits : Obligations.EveryStepKeepsTheStoreAndQueueLimits := by
  refine ⟨fun s t store h => (keepsStanding_keptByParts.step s t h).store store, fun s t queues h => ?_⟩
  unfold step at h
  split at h
  · exact Host.Outcome.next.inj h ▸ queues
  · next c rest _ => exact queuesWithinLimits_exec c { s with pending := rest } t queues h

end Sys2Proof.Machine

/-! # Odometer and crawler port, exposures and renders, transmissions and layouts -/

namespace Sys2Proof.Machine

-- With it on, the many small proofs start more threads than the check's limits allow.
set_option Elab.async false

/-! ## Records that are answered at once (R175, R177) -/

/-- A command taken at once whose owning rule answers: its effect, replied to. -/
theorem arrive_answered {tag : Byte} {c : Command} {s : State} {r : State × Answer} (ready : Ready s)
    (run : runCommand tag c s = answer tag r) : arrive tag c s = replied tag r.2.code r.2.payload r.1 := by
  rw [arrive_at_once tag c s ready, run]
  rfl

theorem Answer.okOrClamped_eq (changed : Prop) [Decidable changed] :
    Answer.okOrClamped (decide changed) = ⟨if changed then .clamped else .ok, []⟩ := by
  simp [Answer.okOrClamped]

theorem exec_odometerRecord_at_once (tag : Byte) (r : OdometerFields) (s : State) (ready : Ready s) :
    exec (.odometerRecord tag r) s
      = .next (replied tag (cmdOdometer r s).2.code (cmdOdometer r s).2.payload (cmdOdometer r s).1) :=
  congrArg Host.Outcome.next (arrive_answered ready rfl)

theorem exec_darkRecord_at_once (tag : Byte) (n : Half) (s : State) (ready : Ready s) :
    exec (.darkRecord tag n) s
      = .next (replied tag (cmdDark n s).2.code (cmdDark n s).2.payload (cmdDark n s).1) :=
  congrArg Host.Outcome.next (arrive_answered ready rfl)

theorem exec_previewRecord_at_once (tag : Byte) (n : Half) (s : State) (ready : Ready s) :
    exec (.previewRecord tag n) s
      = .next (replied tag (cmdPreview n s).2.code (cmdPreview n s).2.payload (cmdPreview n s).1) :=
  congrArg Host.Outcome.next (arrive_answered ready rfl)

theorem exec_advisoryRecord_at_once (tag : Byte) (r : AdvisoryFields) (s : State) (ready : Ready s) :
    exec (.advisoryRecord tag r) s
      = .next (replied tag (cmdAdvisory r s).2.code (cmdAdvisory r s).2.payload (cmdAdvisory r s).1) :=
  congrArg Host.Outcome.next (arrive_answered ready rfl)

theorem exec_presetPosition_at_once (tag : Byte) (position : Word) (s : State) (ready : Ready s) :
    exec (.presetPosition tag position) s
      = .next (replied tag (cmdPreset position s).2.code (cmdPreset position s).2.payload (cmdPreset position s).1) :=
  congrArg Host.Outcome.next (arrive_answered ready rfl)

theorem exec_note_at_once (tag : Byte) (text : List Byte) (s : State) (ready : Ready s) :
    exec (.note tag text) s
      = .next (replied tag (cmdNote text s).2.code (cmdNote text s).2.payload (cmdNote text s).1) :=
  congrArg Host.Outcome.next (arrive_answered ready rfl)

/-! ## The ODOMETER record, the preset and NOTE (R17, R19, R28) -/

/-- Settles O12, by the three answers of the ODOMETER record: refused, a wrong sign, installed. -/
theorem odometerRecordIsClampedAndInstalled : Obligations.OdometerRecordIsClampedAndInstalled := by
  intro tag r s ready
  dsimp only
  rw [exec_odometerRecord_at_once tag r s ready]
  unfold cmdOdometer
  by_cases idle : s.fsq.opState ≠ .idle
  · simp only [if_pos idle]; rfl
  · by_cases sign : r.sign.toInt ≠ 1 ∧ r.sign.toInt ≠ -1
    · simp only [if_neg idle, if_pos sign]; rfl
    · simp only [if_neg idle, if_neg sign, Answer.okOrClamped_eq]

/-- Settles O14, by the state and then the range of the value. -/
theorem presetSetsPositionAlone : Obligations.PresetSetsPositionAlone := by
  intro tag position s ready
  rw [exec_presetPosition_at_once tag position s ready]
  unfold cmdPreset
  by_cases idle : s.fsq.opState ≠ .idle
  · simp only [if_pos idle]; rfl
  · by_cases inside : -(2 ^ 30) ≤ position.toInt ∧ position.toInt ≤ 2 ^ 30 - 1
    · have notOutside : ¬ (position.toInt < Config.xMin ∨ Config.xMax < position.toInt) := by
        simp only [Config.xMin, Config.xMax]; omega
      simp only [if_neg idle, if_pos inside, if_neg notOutside]; rfl
    · have outside : position.toInt < Config.xMin ∨ Config.xMax < position.toInt := by
        simp only [Config.xMin, Config.xMax]; omega
      simp only [if_neg idle, if_neg inside, if_pos outside]; rfl

/-- The check of a NOTE's text, as R28 has it. -/
theorem noteBad_eq_false_iff (text : List Byte) :
    (text.isEmpty || 32 < text.length || !text.all printable) = false ↔
      1 ≤ text.length ∧ text.length ≤ 32 ∧ ∀ b ∈ text, 0x20 ≤ b.toNat ∧ b.toNat ≤ 0x7E := by
  cases text <;> simp [printable, and_assoc]

/-- Settles O23, by the check of the text and then the DOWN slot. -/
theorem noteFillsTheDownSlot : Obligations.NoteFillsTheDownSlot := by
  intro tag text s ready
  rw [exec_note_at_once tag text s ready]
  unfold cmdNote
  cases bad : text.isEmpty || 32 < text.length || !text.all printable with
  | true =>
    rw [if_pos fun good => Bool.false_ne_true (((noteBad_eq_false_iff text).mpr good).symm.trans bad)]
    rfl
  | false =>
    rw [if_neg (not_not_intro ((noteBad_eq_false_iff text).mp bad))]
    cases down : s.odo.down <;> rfl

/-! ## The DARK, PREVIEW and ADVISORY records (R31 to R33, R64, R154) -/

/-- The level lies at the higher of its terms in STREAMING. -/
theorem Odo.formedLevel_streaming (o : Odo) : o.formedLevel .streaming = o.coverageTerm.max o.storeTerm := rfl

theorem Odo.formedLevel_other (o : Odo) {op : OpState} (h : op ≠ .streaming) : o.formedLevel op = .hold := if_neg h

/-- Settles O13, record by record, and the level and the store term from their laws. -/
theorem darkPreviewAndAdvisoryRecords : Obligations.DarkPreviewAndAdvisoryRecords := by
  refine ⟨fun tag n s ready => ⟨?_, ?_⟩, fun tag r s ready => ?_, fun o op => ⟨fun other => ?_, ?_, ?_, ?_⟩,
    fun _ _ _ => rfl⟩
  · rw [exec_darkRecord_at_once tag n s ready]
    unfold cmdDark
    by_cases unconfigured : s.fsq.opState = .unconfigured
    · simp only [if_pos unconfigured]; rfl
    · simp only [if_neg unconfigured, Answer.okOrClamped_eq, ite_not]; rfl
  · rw [exec_previewRecord_at_once tag n s ready]
    unfold cmdPreview
    by_cases unconfigured : s.fsq.opState = .unconfigured
    · simp only [if_pos unconfigured]; rfl
    · simp only [if_neg unconfigured, Answer.okOrClamped_eq]
  · dsimp only
    rw [exec_advisoryRecord_at_once tag r s ready]
    unfold cmdAdvisory
    by_cases unconfigured : s.fsq.opState = .unconfigured
    · simp only [if_pos unconfigured]; rfl
    · rw [if_neg unconfigured, if_neg unconfigured, ite_not]
      split <;> rfl
  · rw [Odo.reformLevel_level, o.formedLevel_other other]
  · rintro rfl
    rw [Odo.reformLevel_level, o.formedLevel_streaming]
    exact ⟨Advisory.max_or .., Advisory.code_le_max ..⟩
  · simp
  · rw [Odo.reformLevel_level, Odo.reformLevel_advisoryDue]
    exact o.reformLevel_eq op

/-! ## Quadrature decoding (R15, R16) -/

/-- How far the pair of levels has gone round the forward sequence: not at all, one back or forth, or two. -/
theorem quadDistance (a b refA refB : Bool) :
    (quadIndex a b + 4 - quadIndex refA refB) % 4 =
      if a = refA ∧ b = refB then 0
      else if a ≠ refA ∧ b ≠ refB then 2
      else if (refA, refB, a, b) ∈
        [(false, false, true, false), (true, false, true, true), (true, true, false, true), (false, true, false, false)]
        then 1
      else 3 := by
  revert a b refA refB; decide

theorem Odo.move_eq (o : Odo) (d : Int) :
    o.move d =
      { o with
        x := clampInt (o.x + d) (-(2 ^ 30)) (2 ^ 30 - 1)
        windowSum := o.windowSum + (clampInt (o.x + d) (-(2 ^ 30)) (2 ^ 30 - 1) - o.x) } := by
  norm_num [Odo.move]

/-- Settles O48: with the decoder at work, by how far the pair has gone. -/
theorem quadratureMovesPosition : Obligations.QuadratureMovesPosition := by
  intro a b s
  refine congrArg (fun o => Host.Outcome.next (settle { s with odo := o })) ?_
  unfold Odo.transition
  by_cases synthetic : s.odo.odometer.step ≠ 0
  · rw [if_pos synthetic, if_pos synthetic]
  · rw [if_neg synthetic, if_neg synthetic, quadDistance]
    by_cases same : a = s.odo.refA ∧ b = s.odo.refB
    · rw [if_pos same, if_pos same]; rfl
    · by_cases both : a ≠ s.odo.refA ∧ b ≠ s.odo.refB
      · rw [if_neg same, if_neg same, if_pos both, if_pos both]; rfl
      · rw [if_neg same, if_neg same, if_neg both, if_neg both]
        split_ifs
        · exact Odo.move_eq ..
        · exact Odo.move_eq ..

/-! ## Clocks and port lines (R21, R23, R32) -/

/-- The next line, behind a response or with the transmitter idle: a due advisory line first. -/
theorem Odo.portNext_afterResponse (o : Odo) :
    o.portNext false =
      if o.advisoryDue = true then { o with portTx := some (.advisory o.level), advisoryDue := false }
      else
        match o.responses with
        | r :: rest => { o with portTx := some (.response r), responses := rest }
        | [] => { o with portTx := none } := by
  cases due : o.advisoryDue <;> cases queue : o.responses <;> simp [Odo.portNext, due, queue]

/-- The next line behind an advisory line: a response that waits goes before a due advisory line. -/
theorem Odo.portNext_afterAdvisory (o : Odo) :
    o.portNext true =
      if o.advisoryDue = true ∧ o.responses = [] then
        { o with portTx := some (.advisory o.level), advisoryDue := false }
      else
        match o.responses with
        | r :: rest => { o with portTx := some (.response r), responses := rest }
        | [] => { o with portTx := none } := by
  cases due : o.advisoryDue <;> cases queue : o.responses <;> simp [Odo.portNext, due, queue]

/-- Settles O49, clock by clock, and the port's next line by the line that has gone out. -/
theorem clocksAndPortLines : Obligations.ClocksAndPortLines := by
  refine ⟨fun s idle => ?_, fun s => ⟨rfl, rfl⟩, fun s line sending => ?_, fun s idle => ?_⟩
  · unfold step
    split
    · rfl
    · next waits => cases idle.symm.trans waits
  · refine congrArg (fun o => Host.Outcome.next (settle { s with odo := o })) ?_
    unfold Odo.lineSent
    rw [sending]
    cases line with
    | response text => exact s.odo.portNext_afterResponse
    | advisory level => exact s.odo.portNext_afterAdvisory
  · refine congrArg (fun o => Host.Outcome.next (settle { s with odo := o })) ?_
    unfold Odo.lineSent
    rw [idle]

end Sys2Proof.Machine

namespace Sys2Proof.Machine

-- With it on, the many small proofs start more threads than the check's limits allow.
set_option Elab.async false

/-! ## Changes of the operating state (R34, R165, R166) -/

/-- A table once its application point is met: applied, or disarmed by its second check (R167). -/
def TableState.met (t : TableState) : TableState :=
  match t.armed with
  | none => t
  | some expected => if expected = t.gen then t.apply else { t with armed := none }

@[simp] theorem TableState.met_armed (t : TableState) : t.met.armed = none := by
  unfold TableState.met
  split
  · assumption
  · split <;> rfl

/-- A commit whose generation matches makes its pending copy active. -/
theorem TableState.met_active {t : TableState} (h : t.armed = some t.gen) : t.met.active = t.pending := by
  unfold TableState.met
  rw [h]
  exact congrArg TableState.active (if_pos rfl)

theorem applyCommit_get_same (i : TableId) (p : CommitPoint) (s : State) :
    (applyCommit i p s).tbu.get i = (s.tbu.get i).met := by
  rw [applyCommit_tbu]
  unfold TableState.met
  cases i <;> rfl

theorem applyIdleCommits_eq {s : State} (h : s.fsq.opState ≠ .streaming) :
    applyIdleCommits s =
      if s.fsq.buffers.anyExposing = true then applyCommit .shade .atOnce (applyCommit .profile .atOnce s)
      else applyCommit .column .atOnce (applyCommit .shade .atOnce (applyCommit .profile .atOnce s)) := by
  unfold applyIdleCommits
  simp [h]

/-- The tables after an application outside STREAMING: COLUMN's waits while a buffer is EXPOSING. -/
theorem applyIdleCommits_tables {s : State} (h : s.fsq.opState ≠ .streaming) :
    (applyIdleCommits s).tbu.profile = s.tbu.profile.met ∧ (applyIdleCommits s).tbu.shade = s.tbu.shade.met
      ∧ (applyIdleCommits s).tbu.column
        = if s.fsq.buffers.anyExposing = true then s.tbu.column else s.tbu.column.met := by
  have table (i : TableId) : (applyIdleCommits s).tbu.get i =
      if i = .column ∧ s.fsq.buffers.anyExposing = true then s.tbu.get i else (s.tbu.get i).met := by
    rw [applyIdleCommits_eq h]
    cases exposing : s.fsq.buffers.anyExposing <;> cases i <;> simp [applyCommit_get_same, applyCommit_other]
  exact ⟨(table .profile).trans (if_neg nofun), (table .shade).trans (if_neg nofun),
    (table .column).trans (by simp [Tbu.get])⟩

/-- Settles O18, from what a change of state reaches and what the commits leave of each table. -/
theorem changeOfStateReachesTheBlocks : Obligations.ChangeOfStateReachesTheBlocks := by
  refine ⟨fun op s => rfl, fun s => ⟨applyIdleCommits_streaming s, fun other => ?_⟩⟩
  obtain ⟨profile, shade, column⟩ := applyIdleCommits_tables other
  refine ⟨applyIdleCommits_eq other, ?_, ?_, fun dark => ?_, fun exposing => ?_, fun armed => ?_, fun armed => ?_,
    applyIdleCommits_frame s⟩
  · rw [profile, TableState.met_armed]
  · rw [shade, TableState.met_armed]
  · rw [column, if_neg (by simp [dark]), TableState.met_armed]
  · rw [column, if_pos exposing]
  · rw [profile, TableState.met_active armed]
  · rw [shade, TableState.met_active armed]

/-! ## Exposures (R44 to R46) -/

theorem exposureDrives_eq (kind : FrameKind) (drives : List Nat) :
    exposureDrives kind drives = if kind = .stream ∨ kind = .hold then drives else List.replicate 8 0 := by
  cases kind <;> rfl

theorem darkCounterAfter_eq (kind : FrameKind) (n : Nat) :
    darkCounterAfter kind n = if kind = .stream then min (n + 1) 4096 else if kind = .dark then 0 else n := by
  cases kind <;> rfl

/-- ODO at an exposure start: the synthetic step taken (R18). -/
def Odo.synthetic (o : Odo) : Odo := if o.odometer.step = 0 then o else o.move o.odometer.step

@[simp] theorem Odo.synthetic_roll (o : Odo) : o.synthetic.roll = o.roll := by
  unfold Odo.synthetic; split <;> rfl

@[simp] theorem Odo.synthetic_rollIsStale (o : Odo) : o.synthetic.rollIsStale = o.rollIsStale := by
  unfold Odo.synthetic; split <;> rfl

/-- The part at an exposure start, X moved and the frame counted. -/
def State.counted (s : State) : State :=
  { s with
    odo := s.odo.synthetic
    fsq := { s.fsq with frameCounter := (s.fsq.frameCounter + 1) % 4294967296 } }

/-- The armed COLUMN commit at an exposure start reads nothing that the counting has changed. -/
theorem applyCommit_counted (p : CommitPoint) (s : State) :
    applyCommit .column p s.counted =
      { s.counted with tbu := (applyCommit .column p s).tbu, lnk := (applyCommit .column p s).lnk } := by
  obtain ⟨tbu, lnk⟩ := applyCommit_congr .column p s.counted s rfl rfl
  rw [applyCommit_frame, tbu, lnk]

/-- An exposure start, with what its COLUMN application makes of the tables and the link. -/
theorem startExposure_eq (kind : FrameKind) (i : BufferId) (s : State) :
    startExposure kind i s =
      let n := (s.fsq.frameCounter + 1) % 4294967296
      let a := applyCommit .column (.exposureStart n) s
      let r : ExposureRecord :=
        { frameNumber := n, kind := kind
          width := s.fsq.sensor.width, height := s.fsq.sensor.height, source := s.fsq.sensor.source
          exposure := s.fsq.sensor.exposure, drives := exposureDrives kind s.ilc.drives
          roll := s.odo.roll, rollStale := s.odo.rollIsStale, columnGen := a.tbu.column.gen }
      { s with
        fsq := { s.fsq with
          frameCounter := n
          buffers := s.fsq.buffers.set i (.exposing r .beforeMidpoint)
          darkCounter := darkCounterAfter kind s.fsq.darkCounter
          led := r.drives
          strobe := true }
        odo := s.odo.synthetic
        tbu := a.tbu
        lnk := a.lnk } := by
  have start : startExposure kind i s =
      let a := applyCommit .column (.exposureStart s.counted.fsq.frameCounter) s.counted
      { a with
        fsq := { a.fsq with
          buffers := a.fsq.buffers.set i (.exposing (exposureRecord kind a) .beforeMidpoint)
          darkCounter := darkCounterAfter kind a.fsq.darkCounter
          led := (exposureRecord kind a).drives
          strobe := true } } := rfl
  rw [start, applyCommit_counted]
  simp [exposureRecord, State.counted]

/-- Settles O27: the exposure start from its equation, the midpoint and the end phase by phase. -/
theorem exposureLatchesItsRecord : Obligations.ExposureLatchesItsRecord := by
  refine ⟨fun kind i s => ?_, fun s => ?_⟩
  · dsimp only
    rw [startExposure_eq]
    dsimp only
    rw [exposureDrives_eq, darkCounterAfter_eq]
    refine ⟨rfl, fun still => if_pos still, fun moves => ?_, rfl, applyCommit_armed .column _ s, rfl, rfl⟩
    rw [Odo.synthetic, if_neg moves, Odo.move_eq]
  · have midpoint {t : State} (h : exposureMidpoint s = t) : exec .exposureMidpoint s = .next (settle t) := h ▸ rfl
    have end_ {t : State} (h : exposureEnd s = t) : exec .exposureEnd s = .next (settle t) := h ▸ rfl
    refine ⟨fun i r phase => ⟨midpoint ?_, end_ ?_⟩, fun i r x phase => ⟨end_ ?_, midpoint ?_⟩,
      fun i r x phase => ⟨midpoint ?_, end_ ?_⟩, fun phase => ⟨midpoint ?_, end_ ?_⟩⟩
    all_goals simp [exposureMidpoint, exposureEnd, phase, darkRing]

end Sys2Proof.Machine

namespace Sys2Proof.Machine

-- With it on, the many small proofs start more threads than the check's limits allow.
set_option Elab.async false

/-! ## A render start (R49, R69, R123, R165) -/

/-- The commits of a render start read the tables and the link alone. -/
theorem applyRenderCommits_fsq_set (n : Nat) (f : Fsq) (s : State) :
    applyRenderCommits n { s with fsq := f } =
      { s with fsq := f, tbu := (applyRenderCommits n s).tbu, lnk := (applyRenderCommits n s).lnk } := by
  obtain ⟨tbu, lnk⟩ := applyCommit_congr .profile (.renderStart n) { s with fsq := f } s rfl rfl
  obtain ⟨tbu', lnk'⟩ := applyCommit_congr .shade (.renderStart n) _ _ tbu lnk
  rw [applyRenderCommits_frame]
  simp only [applyRenderCommits, tbu', lnk']

@[simp] theorem applyRenderCommits_odo (n : Nat) (s : State) : (applyRenderCommits n s).odo = s.odo := by
  rw [applyRenderCommits_frame]

/-- The gap ranges of a render start read the store, the link, ODO and the operating state alone. -/
theorem takeGapRanges_eq {s t : State} (ranges : List (Int × Int)) (n : Nat) (d : Direction) (rws : s.rws = t.rws)
    (lnk : s.lnk = t.lnk) (odo : s.odo = t.odo) (op : s.fsq.opState = t.fsq.opState) :
    takeGapRanges ranges n d s =
      { s with
        odo := (takeGapRanges ranges n d t).odo
        rws := (takeGapRanges ranges n d t).rws
        lnk := (takeGapRanges ranges n d t).lnk } := by
  obtain ⟨rws', lnk', odo', -⟩ := takeGapRanges_congr ranges n d s t rws lnk odo op
  rw [takeGapRanges_frame, rws', lnk', odo']

theorem takeGapRanges_coverageTerm (ranges : List (Int × Int)) (n : Nat) (d : Direction) (s : State) :
    (takeGapRanges ranges n d s).odo.coverageTerm = s.odo.coverageTerm := by
  induction ranges generalizing s with
  | nil => rfl
  | cons r rest ih => exact (ih _).trans (takeGapRange_coverageTerm r.1 r.2 n d s)

@[simp] theorem takeGapRanges_tbu (ranges : List (Int × Int)) (n : Nat) (d : Direction) (s : State) :
    (takeGapRanges ranges n d s).tbu = s.tbu := by rw [takeGapRanges_frame]

/-- A render start, with what its commits make of the tables and its gap ranges of the store, ODO and the link. -/
theorem startRender_eq (i : BufferId) (f : Frame) (rest : List BufferId) (s : State) :
    startRender i f rest s =
      let n := f.record.frameNumber
      let committed := applyRenderCommits n s
      let scan := s.bcf.scan f
      let start := s.cvt.renderStart s.strip.record f.position
      let gapped := takeGapRanges start.ranges n start.direction committed
      { s with
        fsq := { s.fsq with buffers := s.fsq.buffers.set i (.rendering f), readyOrder := rest }
        bcf := scan.1
        cvt := start.cvt
        tbu := committed.tbu
        lnk := gapped.lnk
        geo := .render
          { buffer := i
            context := streamContext f start.direction scan.2 { s with bcf := scan.1, tbu := committed.tbu }
            rows := rowList start.cvt.takeList s.strip.record.b0 s.strip.record.b1
            done := 0
            stats := zeroStatistics }
        odo := gapped.odo.coverageChanged start.cvt.advance (bandTicks s.strip.record) s.fsq.opState
        rws := gapped.rws.previewAtRender f } := by
  unfold startRender
  dsimp only
  rw [applyRenderCommits_fsq_set]
  rw [takeGapRanges_eq (t := applyRenderCommits f.record.frameNumber s)]
  · rfl
  all_goals rw [applyRenderCommits_frame]

/-- The row list has its meter row when no take row lies at the band centre (R71). -/
theorem rowList_eq (takes : List (Int × Nat)) (b0 b1 : Nat) :
    rowList takes b0 b1 =
      if ∃ p ∈ takes, p.2 / 256 = (b0 + b1) / 2 then takes.map (fun p => RowItem.take p.1 p.2)
      else takes.map (fun p => RowItem.take p.1 p.2) ++ [.meter (256 * ((b0 + b1) / 2))] := by
  have any : (takes.any fun p => p.2 / 256 == (b0 + b1) / 2) = true ↔ ∃ p ∈ takes, p.2 / 256 = (b0 + b1) / 2 := by
    simp
  unfold rowList
  simp only [any]
  rfl

/-- A render starts with the oldest READY buffer. -/
theorem tryRenderStart_ready {s : State} {i : BufferId} {rest : List BufferId} {f : Frame}
    (streaming : s.fsq.opState = .streaming) (idle : s.geo = .idle) (order : s.fsq.readyOrder = i :: rest)
    (ready : s.fsq.buffers.get i = .ready f) : tryRenderStart s = startRender i f rest s := by
  unfold tryRenderStart
  simp [streaming, idle, order, ready]

theorem tryRenderStart_none {s : State} (h : s.fsq.opState ≠ .streaming ∨ s.geo ≠ .idle ∨ s.fsq.readyOrder = []) :
    tryRenderStart s = s := by
  unfold tryRenderStart
  split
  · split <;> simp_all
  · rfl

/-- Settles O30, from the equation of the render start. -/
theorem renderStartLatchesItsContext : Obligations.RenderStartLatchesItsContext := by
  refine ⟨fun s => tryRenderStart_none, fun s i rest f streaming idle order ready => ?_⟩
  dsimp only
  rw [tryRenderStart_ready streaming idle order ready, startRender_eq]
  refine ⟨rfl, rfl, rfl, rfl, rfl, ?_, ?_, rfl, rfl⟩
  · dsimp only
    rw [rowList_eq]
    rfl
  · dsimp only
    unfold Odo.coverageChanged
    rw [takeGapRanges_coverageTerm, applyRenderCommits_odo, streaming]
    rfl

/-! ## Render completion and the control queue (R50, R85, R185 to R187) -/

/-- The buffer of a render that completes. -/
theorem releaseBuffer_eq (i : BufferId) (f : Frame) (s : State) :
    releaseBuffer i f s =
      let released : State :=
        { s with
          fsq := { s.fsq with
            buffers := s.fsq.buffers.set i (if s.fsq.holdMark then .held f else .free), holdMark := false } }
      if s.fsq.holdMark then raiseEvent (.heldReady f.record.frameNumber) released else released := by
  unfold releaseBuffer
  dsimp only
  cases s.fsq.holdMark <;> rfl

/-- The last row of a render completes it. -/
theorem rowCompletion_last {s : State} {w : RenderWork} {f : Frame} {item : RowItem} (geo : s.geo = .render w)
    (buffer : s.fsq.buffers.get w.buffer = .rendering f) (row : w.rows[w.done]? = some item)
    (last : w.rows.length = w.done + 1) :
    let pixels := renderRow w.context f.samples item.position
    rowCompletion s =
      finishRender { w with done := w.done + 1, stats := addStatistics w.stats pixels } f
        (handOn w.context item pixels s) := by
  unfold rowCompletion completeRow
  simp only [geo, row, buffer]
  exact if_pos last.le

theorem hasMeterRow_iff (rows : List RowItem) : hasMeterRow rows = true ↔ ∃ sp, .meter sp ∈ rows := by
  simp only [hasMeterRow, List.any_eq_true]
  constructor
  · rintro ⟨item, inList, isMeter⟩
    cases item with
    | take n sp => cases isMeter
    | meter sp => exact ⟨sp, inList⟩
  · rintro ⟨sp, inList⟩
    exact ⟨_, inList, rfl⟩

theorem ControlItem.isSummary_iff (i : ControlItem) : i.isSummary = true ↔ ∃ m, i = .summary m := by
  cases i <;> simp [ControlItem.isSummary]

/-- A summary that meets a full queue is lost. -/
theorem Lnk.raise_summary_full {l : Lnk} {i : ControlItem} (full : 32 ≤ l.controlQueue.length)
    (summary : i.isSummary = true) :
    l.raise i = { l with summariesDropped := min (l.summariesDropped + 1) 4294967295 } := by
  unfold Lnk.raise
  rw [if_neg (not_lt.mpr full), if_pos summary]
  rfl

/-- An event that meets a full queue takes the oldest summary's place. -/
theorem Lnk.raise_event_for_summary {l : Lnk} {i oldest : ControlItem} {front behind : List ControlItem}
    (full : 32 ≤ l.controlQueue.length) (event : i.isSummary = false) (queue : l.controlQueue = front ++ oldest :: behind)
    (events : ∀ x ∈ front, x.isSummary = false) (summary : oldest.isSummary = true) :
    l.raise i =
      { l with
        controlQueue := front ++ behind ++ [i]
        summariesDropped := min (l.summariesDropped + 1) 4294967295 } := by
  have any : l.controlQueue.any ControlItem.isSummary = true := by simp [queue, summary]
  unfold Lnk.raise
  rw [if_neg (not_lt.mpr full), if_neg (by simp [event]), if_pos any, queue,
    dropOldestSummary_split front behind oldest events summary]
  rfl

/-- An event that meets a queue full of events is lost. -/
theorem Lnk.raise_event_full {l : Lnk} {i : ControlItem} (full : 32 ≤ l.controlQueue.length) (event : i.isSummary = false)
    (events : ∀ x ∈ l.controlQueue, x.isSummary = false) :
    l.raise i = { l with eventsDropped := min (l.eventsDropped + 1) 4294967295 } := by
  have none : ¬ l.controlQueue.any ControlItem.isSummary = true := by simpa using events
  unfold Lnk.raise
  rw [if_neg (not_lt.mpr full), if_neg (by simp [event]), if_neg none]
  rfl

/-- Settles O37: the completion stage by stage, and the control queue case by case. -/
theorem renderCompletionReleasesAndReports : Obligations.RenderCompletionReleasesAndReports := by
  refine ⟨fun s w f item geo buffer row last => ?_, fun l i => ⟨fun room => l.raise_room i room, fun full =>
    ⟨Lnk.raise_summary_full full, fun event front oldest behind => Lnk.raise_event_for_summary full event,
      Lnk.raise_event_full full⟩⟩, hasMeterRow_iff, ControlItem.isSummary_iff, fun _ _ => rfl, fun _ _ => rfl⟩
  refine congrArg (fun t => Host.Outcome.next (settle t)) ?_
  rw [rowCompletion_last geo buffer row last]
  unfold finishRender
  dsimp only
  generalize handOn w.context item _ s = h
  rw [releaseBuffer_eq]
  dsimp only
  cases h.fsq.holdMark <;> rfl

end Sys2Proof.Machine

namespace Sys2Proof.Machine

-- With it on, the many small proofs start more threads than the check's limits allow.
set_option Elab.async false

/-! ## The end of a transmission (R27, R148, R156, R177, R185) -/

/-- The slot of a wall report that has gone out is free, unless a reset has emptied it (R148, R157). -/
theorem Rws.wallSent_eq (r : Rws) :
    r.wallSent = { r with entries := if r.wallSending then r.entries.drop 1 else r.entries, wallSending := false } := by
  obtain ⟨entries, sending⟩ := r
  cases sending <;> rfl

/-- A tile that has gone out: the next is offered, or the preview queue is empty (R156). -/
theorem Rws.tileSent_sending {r : Rws} {p : Preview} (preview : r.preview = some p) (sending : p.sending = true) :
    r.tileSent =
      { r with
        preview :=
          if (p.hp + 7) / 8 ≤ p.nextTile + 1 then none
          else some { p with nextTile := p.nextTile + 1, sending := false } } := by
  unfold Rws.tileSent
  by_cases last : (p.hp + 7) / 8 ≤ p.nextTile + 1 <;> simp [preview, sending, tileCount, last]

/-- A tile whose preview a reset has emptied leaves the queue as it is. -/
theorem Rws.tileSent_emptied {r : Rws} (h : ∀ p, r.preview = some p → p.sending = false) : r.tileSent = r := by
  unfold Rws.tileSent
  split
  · rfl
  · next p preview => exact if_pos (by simp [h p preview])

theorem resumeTrial_other {s : State} (h : ∀ w k, s.geo ≠ .trialWait w k) : resumeTrial s = s := by
  unfold resumeTrial
  split
  · next w k geo => exact absurd geo (h w k)
  all_goals rfl

theorem resumeTrial_waiting {s : State} {w : TrialWork} {k : RowEntry} (geo : s.geo = .trialWait w k) :
    resumeTrial s = if s.rws.rowCount < 1008 ∧ s.rws.fill < 1024 then storeTrialRow w k s else s := by
  unfold resumeTrial Rws.rowSlotFree
  simp only [geo, decide_eq_true_eq]

/-- The part when a wall report has gone out, before a waiting trial row is stored. -/
theorem fillChanged_wallSent (s : State) :
    fillChanged { freeDownlink s with rws := s.rws.wallSent } =
      let entries := if s.rws.wallSending then s.rws.entries.drop 1 else s.rws.entries
      { s with
        lnk := { s.lnk with tx := none }
        rws := { s.rws with entries := entries, wallSending := false }
        odo := ({ s.odo with
          storeTerm := storeTermAfter s.odo.advisory entries.length s.odo.storeTerm }).reformLevel s.fsq.opState } := by
  rw [Rws.wallSent_eq]
  rfl

/-- Settles O45, end by end: of the kind in transmission, and of any other. -/
theorem endOfATransmission : Obligations.EndOfATransmission := by
  intro s freed
  have ends {c : Instr} {u v : State} (row : exec c s = .next (settle u)) (h : u = v) :
      exec c s = .next (settle v) := h ▸ row
  refine ⟨fun r tx => ends (u := replySent s) rfl ?_, fun seq e tx => ?_,
    fun m tx => ends (u := markerReportSent s) rfl ?_, fun i tx => ends (u := controlItemSent s) rfl ?_,
    fun k tx => ⟨fun emptied => ends (u := previewTileSent s) rfl ?_,
      fun p preview sending => ends (u := previewTileSent s) rfl ?_⟩,
    fun other => ends (u := replySent s) rfl ?_, fun other => ends (u := wallReportSent s) rfl ?_,
    fun other => ends (u := markerReportSent s) rfl ?_, fun other => ends (u := controlItemSent s) rfl ?_,
    fun other => ends (u := previewTileSent s) rfl ?_⟩
  · unfold replySent; rw [tx]; rfl
  · have sent : wallReportSent s = resumeTrial (fillChanged { freeDownlink s with rws := s.rws.wallSent }) := by
      unfold wallReportSent; rw [tx]
    rw [fillChanged_wallSent] at sent
    exact ⟨fun idle => ends (u := wallReportSent s) rfl (sent.trans (resumeTrial_other idle)),
      fun w k geo => ends (u := wallReportSent s) rfl (sent.trans (resumeTrial_waiting geo))⟩
  · unfold markerReportSent; rw [tx]; rfl
  · unfold controlItemSent; rw [tx]; rfl
  · unfold previewTileSent; rw [tx, Rws.tileSent_emptied emptied]; rfl
  · unfold previewTileSent; rw [tx, Rws.tileSent_sending preview sending]; rfl
  · unfold replySent; split <;> simp_all
  · unfold wallReportSent; split <;> simp_all
  · unfold markerReportSent; split <;> simp_all
  · unfold controlItemSent; split <;> simp_all
  · unfold previewTileSent; split <;> simp_all

/-! ## What the transmitters start (R23, R147, R156, R184, R185) -/

/-- The end of a step, by what the arbiter does. -/
theorem settle_of_arbitrate {s t : State} (h : arbitrate s = t) (odo : t.odo = s.odo) :
    settle s = { t with odo := s.odo.portKick } := by
  unfold settle
  rw [h, odo]

theorem arbitrate_reply {s : State} {r : Reply} {rest : List Reply} (free : s.lnk.tx = none)
    (replies : s.lnk.replies = r :: rest) :
    arbitrate s = { s with lnk := { s.lnk with replies := rest, tx := some (.reply r) } } := by
  unfold arbitrate
  simp [free, replies]

/-- With no reply waiting the stream whose turn it is starts, if there is one. -/
theorem arbitrate_stream {s : State} (free : s.lnk.tx = none) (replies : s.lnk.replies = []) :
    arbitrate s = match turn s with | some d => startStream d s | none => s := by
  unfold arbitrate
  simp only [free, replies]
  rfl

/-- The turn is the first stream on offer from the pointer on. -/
theorem turn_eq_some_iff (s : State) (d : DownStream) :
    turn s = some d ↔
      offers s d = true ∧ (d = s.lnk.pointer ∨ offers s s.lnk.pointer = false
        ∧ (d = s.lnk.pointer.next ∨ offers s s.lnk.pointer.next = false ∧ d = s.lnk.pointer.next.next)) := by
  unfold turn
  split_ifs with first second third
  · constructor
    · rintro ⟨⟩; exact ⟨first, .inl rfl⟩
    · rintro ⟨_, rfl | ⟨notFirst, _⟩⟩
      · rfl
      · simp [first] at notFirst
  · constructor
    · rintro ⟨⟩; exact ⟨second, .inr ⟨by simpa using first, .inl rfl⟩⟩
    · rintro ⟨on, rfl | ⟨_, rfl | ⟨notSecond, _⟩⟩⟩
      · exact absurd on first
      · rfl
      · simp [second] at notSecond
  · constructor
    · rintro ⟨⟩; exact ⟨third, .inr ⟨by simpa using first, .inr ⟨by simpa using second, rfl⟩⟩⟩
    · rintro ⟨on, rfl | ⟨_, rfl | ⟨_, rfl⟩⟩⟩
      · exact absurd on first
      · exact absurd on second
      · rfl
  · constructor
    · nofun
    · rintro ⟨on, rfl | ⟨_, rfl | ⟨_, rfl⟩⟩⟩
      · exact absurd on first
      · exact absurd on second
      · exact absurd on third

/-- The arbiter moves no mark of a preview but its sending mark. -/
theorem arbitrate_preview (s : State) :
    (arbitrate s).rws.preview.map (fun p => { p with sending := false })
      = s.rws.preview.map (fun p => { p with sending := false }) := by
  unfold arbitrate
  split
  · rfl
  · split
    · rfl
    · split
      · next d _ =>
        cases d <;> (simp only [startStream]; repeat' split) <;> simp_all
      · rfl

theorem settle_withoutTransmitters (s : State) : (settle s).withoutTransmitters = s.withoutTransmitters := by
  have preview := arbitrate_preview s
  unfold settle State.withoutTransmitters
  rw [arbitrate_odo, Odo.portKick_frame]
  simp only [preview]
  rw [arbitrate_frame]

theorem startStream_wall {s : State} {e : Entry} {rest : List Entry} (entries : s.rws.entries = e :: rest) :
    startStream .wall s =
      { s with
        rws := { s.rws with wallSending := true, seq := (s.rws.seq + 1) % 65536 }
        lnk := { s.lnk with tx := some (.wall s.rws.seq e), pointer := .control } } := by
  simp only [startStream, entries]

theorem startStream_marker {s : State} {m : Marker} (up : s.odo.up = some m) :
    startStream .control s = { s with lnk := { s.lnk with tx := some (.marker m), pointer := .preview } } := by
  simp only [startStream, up]

theorem startStream_item {s : State} {i : ControlItem} {rest : List ControlItem} (up : s.odo.up = none)
    (queue : s.lnk.controlQueue = i :: rest) :
    startStream .control s =
      { s with lnk := { s.lnk with controlQueue := rest, tx := some (.control i), pointer := .preview } } := by
  simp only [startStream, up, queue]

theorem startStream_preview {s : State} {p : Preview} (preview : s.rws.preview = some p) :
    startStream .preview s =
      { s with
        rws := { s.rws with preview := some { p with sending := true } }
        lnk := { s.lnk with tx := some (.tile p.tile), pointer := .wall } } := by
  simp only [startStream, preview]

/-- The end of a step at which a stream has its turn. -/
theorem settle_stream {s t : State} {d : DownStream} (free : s.lnk.tx = none) (replies : s.lnk.replies = [])
    (next : turn s = some d) (h : startStream d s = t) (odo : t.odo = s.odo) :
    settle s = { t with odo := s.odo.portKick } := by
  refine settle_of_arbitrate ?_ odo
  rw [arbitrate_stream free replies, next]
  exact h

/-- What an idle port transmitter starts. -/
theorem Odo.portKick_of_idle {o : Odo} (idle : o.portTx = none) : o.portKick = o.portNext false := by
  unfold Odo.portKick
  rw [idle]
  rfl

/-- Settles O46, by what the arbiter and the port's transmitter find. -/
theorem settleStartsOnlyWhatIsOnOffer : Obligations.SettleStartsOnlyWhatIsOnOffer := by
  refine ⟨fun s => ⟨fun busy => ?_, fun free r rest replies => ?_, fun free replies none_ => ?_,
      fun free replies wall e rest entries => settle_stream free replies wall (startStream_wall entries) rfl,
      fun free replies control m up => settle_stream free replies control (startStream_marker up) rfl,
      fun free replies control up i rest queue => settle_stream free replies control (startStream_item up queue) rfl,
      fun free replies preview p made => settle_stream free replies preview (startStream_preview made) rfl,
      turn_eq_some_iff s⟩,
    fun s => ⟨?_, ?_, ?_⟩, rfl, fun p => rfl, fun o => ⟨fun busy => ?_, fun idle due => ?_,
      fun idle notDue r rest responses => ?_, fun idle notDue responses => ?_⟩, settle_withoutTransmitters⟩
  · exact settle_of_arbitrate (arbitrate_busy s (Option.isSome_iff_ne_none.mpr busy)) rfl
  · exact settle_of_arbitrate (arbitrate_reply free replies) rfl
  · exact settle_of_arbitrate ((arbitrate_stream free replies).trans (by rw [none_])) rfl
  · simp [offers]
  · simp [offers, Option.isSome_iff_ne_none]
  · simp [offers, Option.isSome_iff_ne_none]
  · exact o.portKick_busy (Option.isSome_iff_ne_none.mpr busy)
  · rw [Odo.portKick_of_idle idle, Odo.portNext_afterResponse, if_pos due]
  · rw [Odo.portKick_of_idle idle, Odo.portNext_afterResponse, if_neg (by simp [notDue]), responses]
  · rw [Odo.portKick_of_idle idle, Odo.portNext_afterResponse]
    cases o
    simp_all

end Sys2Proof.Machine

namespace Sys2Proof.Machine

-- With it on, the many small proofs start more threads than the check's limits allow.
set_option Elab.async false

/-! ## Lines of the crawler port (R22 to R29) -/

theorem rollForm_eq_roll_iff (digits : List Byte) (v : Nat) :
    rollForm digits = .roll v ↔
      1 ≤ digits.length ∧ digits.length ≤ 4 ∧ (∀ d ∈ digits, 0x30 ≤ d.toNat ∧ d.toNat ≤ 0x39)
        ∧ v = digits.foldl (fun n d => 10 * n + (d.toNat - 0x30)) 0 ∧ v ≤ 4095 := by
  have decimal : (digits.all isDigit = true) ↔ ∀ d ∈ digits, 0x30 ≤ d.toNat ∧ d.toNat ≤ 0x39 := by
    simp [isDigit]
  rw [← decimal]
  change _ ↔ _ ∧ _ ∧ _ ∧ v = decimalValue digits ∧ _
  unfold rollForm
  split_ifs with form
  · rw [LineForm.roll.injEq]
    constructor
    · rintro rfl
      tauto
    · tauto
  · constructor
    · nofun
    · rintro ⟨one, four, all, rfl, top⟩
      exact absurd ⟨one, four, all, top⟩ form

theorem markerForm_eq_marker_iff (code code' : List Byte) :
    markerForm code = .marker code' ↔
      code' = code ∧ 1 ≤ code.length ∧ code.length ≤ 8 ∧ ∀ c ∈ code, 0x21 ≤ c.toNat ∧ c.toNat ≤ 0x7E := by
  have all : (code.all visible = true) ↔ ∀ c ∈ code, 0x21 ≤ c.toNat ∧ c.toNat ≤ 0x7E := by
    simp [visible]
  rw [← all]
  unfold markerForm
  split_ifs with form
  · rw [LineForm.marker.injEq]
    tauto
  · constructor
    · nofun
    · rintro ⟨-, form'⟩
      exact absurd form' form

/-- A roll form is no marker and no query, and a marker form no roll and no query. -/
theorem rollForm_cases (digits : List Byte) : rollForm digits = .malformed ∨ ∃ v, rollForm digits = .roll v := by
  unfold rollForm
  split
  · exact .inr ⟨_, rfl⟩
  · exact .inl rfl

theorem markerForm_cases (code : List Byte) : markerForm code = .malformed ∨ markerForm code = .marker code := by
  unfold markerForm
  split
  · exact .inr rfl
  · exact .inl rfl

/-- What a line's text is by its form: `A`, `M` or `Q` as 2.5 has them. -/
theorem lineForm_cases (text : List Byte) :
    lineForm text = .malformed
      ∨ (∃ digits v, text = 0x41 :: 0x20 :: digits ∧ rollForm digits = .roll v ∧ lineForm text = .roll v)
      ∨ (∃ code, text = 0x4D :: 0x20 :: code ∧ markerForm code = .marker code ∧ lineForm text = .marker code)
      ∨ (text = [0x51] ∧ lineForm text = .query) := by
  unfold lineForm
  split
  · split_ifs with query
    · subst query; exact .inr (.inr (.inr ⟨rfl, rfl⟩))
    · exact .inl rfl
  · split_ifs with space roll marker
    · exact .inl rfl
    · next rest =>
      rw [not_not] at space
      subst space roll
      rcases rollForm_cases rest with form | ⟨v, form⟩
      · exact .inl form
      · exact .inr (.inl ⟨rest, v, rfl, form, form⟩)
    · next rest =>
      rw [not_not] at space
      subst space marker
      rcases markerForm_cases rest with form | form
      · exact .inl form
      · exact .inr (.inr (.inl ⟨rest, rfl, form, form⟩))
    · exact .inl rfl
  · exact .inl rfl

/-- A line of at least one character before its LF is malformed for one of four reasons, or judged by its text. -/
theorem classifyLine_append (body : List LineChar) (last : LineChar) :
    classifyLine (body ++ [last]) =
      if last.framingError || last.byte ≠ 0x0D || 40 < body.length
          || body.any (fun c => c.framingError || !printable c.byte) then .malformed
      else lineForm (body.map (·.byte)) := by
  unfold classifyLine
  simp only [List.getLast?_append, List.getLast?_singleton, Option.some_or, List.dropLast_concat]

/-- A line that is not malformed is the clean line of its text, and judged by it. -/
theorem classifyLine_cases (chars : List LineChar) :
    classifyLine chars = .malformed ∨ ∃ text, chars = cleanLine text ∧ classifyLine chars = lineForm text := by
  rcases List.eq_nil_or_concat chars with rfl | ⟨body, last, rfl⟩
  · exact .inl rfl
  · rw [List.concat_eq_append, classifyLine_append]
    split
    · exact .inl rfl
    · next good =>
      refine .inr ⟨body.map (·.byte), ?_, rfl⟩
      simp only [Bool.or_eq_true, decide_eq_true_eq, List.any_eq_true, not_or, not_exists, not_and, Bool.not_eq_true,
        not_not] at good
      obtain ⟨⟨⟨lastClean, cr⟩, -⟩, clean⟩ := good
      have same (c : LineChar) (h : c.framingError = false) : (⟨c.byte, false⟩ : LineChar) = c := by
        rw [← h]
      simp only [cleanLine, List.map_append, List.map_map, List.map_cons, List.map_nil]
      congr 1
      · exact ((List.map_congr_left (g := id) fun c hc => same c (clean c hc).1).trans (List.map_id body)).symm
      · rw [← cr, same last lastClean]

/-- A clean line with a form of its own is judged by its text. -/
theorem classifyLine_roll {digits : List Byte} {v : Nat} (form : rollForm digits = .roll v) :
    classifyLine (cleanLine (rollText digits)) = .roll v := by
  obtain ⟨-, four, decimal, -⟩ := (rollForm_eq_roll_iff digits v).mp form
  refine (classifyLine_clean _ (by simp [rollText]; omega) ?_).trans form
  simp only [rollText, List.all_cons, List.all_eq_true, Bool.and_eq_true]
  refine ⟨rfl, rfl, fun d hd => ?_⟩
  have := decimal d hd
  simp [printable]; omega

theorem classifyLine_marker {code : List Byte} (form : markerForm code = .marker code) :
    classifyLine (cleanLine (markerText code)) = .marker code := by
  obtain ⟨-, -, eight, all⟩ := (markerForm_eq_marker_iff code code).mp form
  refine (classifyLine_clean _ (by simp [markerText]; omega) ?_).trans form
  simp only [markerText, List.all_cons, List.all_eq_true, Bool.and_eq_true]
  refine ⟨rfl, rfl, fun d hd => ?_⟩
  have := all d hd
  simp [printable]; omega

theorem classifyLine_query : classifyLine (cleanLine queryText) = .query := by decide

/-- What a line is: malformed, or the clean line of one of the three forms. -/
theorem classifyLine_forms (chars : List LineChar) :
    classifyLine chars = .malformed
      ∨ (∃ digits v, chars = cleanLine (rollText digits) ∧ rollForm digits = .roll v ∧ classifyLine chars = .roll v)
      ∨ (∃ code, chars = cleanLine (markerText code) ∧ markerForm code = .marker code ∧ classifyLine chars = .marker code)
      ∨ (chars = cleanLine queryText ∧ classifyLine chars = .query) := by
  rcases classifyLine_cases chars with bad | ⟨text, rfl, judged⟩
  · exact .inl bad
  · rw [judged]
    rcases lineForm_cases text with bad | ⟨digits, v, rfl, form, line⟩ | ⟨code, rfl, form, line⟩ | ⟨rfl, line⟩
    · exact .inl bad
    · exact .inr (.inl ⟨digits, v, rfl, form, line⟩)
    · exact .inr (.inr (.inl ⟨code, rfl, form, line⟩))
    · exact .inr (.inr (.inr ⟨rfl, line⟩))

theorem classifyLine_eq_roll_iff (chars : List LineChar) (v : Nat) :
    classifyLine chars = .roll v ↔ ∃ digits, chars = cleanLine (rollText digits) ∧ rollForm digits = .roll v := by
  constructor
  · intro roll
    rcases classifyLine_forms chars with h | ⟨digits, v', line, form, h⟩ | ⟨code, -, -, h⟩ | ⟨-, h⟩
    case inr.inl =>
      cases roll.symm.trans h
      exact ⟨digits, line, form⟩
    all_goals cases roll.symm.trans h
  · rintro ⟨digits, rfl, form⟩
    exact classifyLine_roll form

theorem classifyLine_eq_marker_iff (chars : List LineChar) (code : List Byte) :
    classifyLine chars = .marker code ↔ chars = cleanLine (markerText code) ∧ markerForm code = .marker code := by
  constructor
  · intro marker
    rcases classifyLine_forms chars with h | ⟨digits, v', -, -, h⟩ | ⟨code', line, form, h⟩ | ⟨-, h⟩
    case inr.inr.inl =>
      cases marker.symm.trans h
      exact ⟨line, form⟩
    all_goals cases marker.symm.trans h
  · rintro ⟨rfl, form⟩
    exact classifyLine_marker form

theorem classifyLine_eq_query_iff (chars : List LineChar) :
    classifyLine chars = .query ↔ chars = cleanLine queryText := by
  constructor
  · intro query
    rcases classifyLine_forms chars with h | ⟨digits, v', -, -, h⟩ | ⟨code', -, -, h⟩ | ⟨line, -⟩
    case inr.inr.inr => exact line
    all_goals cases query.symm.trans h
  · rintro rfl
    exact classifyLine_query

/-- Why a line is malformed whatever its text spells (R22). -/
theorem classifyLine_malformed {body : List LineChar} {last : LineChar}
    (h : last.byte ≠ 0x0D ∨ last.framingError = true
      ∨ (∃ c ∈ body, c.framingError = true ∨ c.byte.toNat < 0x20 ∨ 0x7E < c.byte.toNat) ∨ 40 < body.length) :
    classifyLine (body ++ [last]) = .malformed := by
  rw [classifyLine_append]
  refine if_pos ?_
  simp only [Bool.or_eq_true, decide_eq_true_eq, List.any_eq_true]
  rcases h with cr | framing | ⟨c, hc, bad⟩ | long
  · exact .inl (.inl (.inr cr))
  · exact .inl (.inl (.inl framing))
  · refine .inr ⟨c, hc, ?_⟩
    rcases bad with framing | low | high
    · exact .inl framing
    · exact .inr (by simp [printable]; omega)
    · exact .inr (by simp [printable]; omega)
  · exact .inl (.inr long)

/-- A line that begins and ends in one step. -/
theorem receiveLine_whole {s : State} (chars : List LineChar) (empty : s.odo.lineBuf = [])
    (whole : s.odo.lineCut = false) :
    receiveLine chars s =
      { s with odo := s.odo.takeLine s.strip s.fsq.frameCounter (classifyLine chars) } := by
  have start : { s.odo with lineBuf := [], lineCut := false } = s.odo := by rw [← empty, ← whole]
  unfold receiveLine Odo.endedForm
  rw [start, empty, whole]
  rfl

/-- The tail of a line that a reset has cut off is counted, whatever it spells. -/
theorem receiveLine_cut {s : State} (chars : List LineChar) (cut : s.odo.lineCut = true) :
    receiveLine chars s =
      { s with
        odo := { s.odo with malformed := min (s.odo.malformed + 1) 65535, lineBuf := [], lineCut := false } } := by
  unfold receiveLine Odo.endedForm
  rw [if_pos cut]
  rfl

/-- Characters past the end of the line buffer make no difference: the line is malformed by then. -/
theorem classifyLine_gathered (first chars : List LineChar) :
    classifyLine (first.take 42 ++ chars) = classifyLine (first ++ chars) := by
  by_cases short : first.length ≤ 42
  · rw [List.take_of_length_le short]
  · rw [classifyLine_long _ (by simp; omega), classifyLine_long _ (by simp; omega)]

/-- A line gathered in parts is taken as the whole. -/
theorem receiveLine_gathered {s : State} (first chars : List LineChar) (empty : s.odo.lineBuf = []) :
    receiveLine chars { s with odo := { s.odo with lineBuf := first.take 42 } } = receiveLine (first ++ chars) s := by
  unfold receiveLine Odo.endedForm
  dsimp only
  rw [empty, classifyLine_gathered, List.nil_append]

/-- A marker fills an empty UP slot, and is refused by an occupied one (R26). -/
theorem Odo.takeMarker_eq (o : Odo) (strip : Strip) (frameCounter : Nat) (code : List Byte) :
    o.takeMarker strip frameCounter code =
      if o.up.isSome then o.respond textB
      else ({ o with up := some ⟨code, o.x, frameCounter, markerRow strip o⟩ }).respond textK := by
  unfold Odo.takeMarker
  split
  · next up => rw [up]; rfl
  · next up => rw [up]; rfl

theorem Odo.takeLine_marker (o : Odo) (strip : Strip) (frameCounter : Nat) (code : List Byte) :
    o.takeLine strip frameCounter (.marker code) =
      if 4 ≤ o.responses.length then { o with overrun := min (o.overrun + 1) 65535 }
      else if o.up.isSome then o.respond textB
      else ({ o with up := some ⟨code, o.x, frameCounter, markerRow strip o⟩ }).respond textK := by
  rw [← Odo.takeMarker_eq]
  rfl

/-- Settles O50: a whole line by its form, a line cut off, and a line gathered in parts. -/
theorem crawlerLinesAreTakenOrCounted : Obligations.CrawlerLinesAreTakenOrCounted := by
  have received {c : Instr} {s u : State} {chars : List LineChar} (row : exec c s = .next (settle (receiveLine chars s)))
      (h : receiveLine chars s = u) : exec c s = .next (settle u) := h ▸ row
  refine ⟨fun s empty whole => ⟨fun digits v form => received rfl ?_, fun code form => received rfl ?_, received rfl ?_⟩,
    ⟨fun chars s empty whole bad => received rfl ?_, fun body last h => ⟨classifyLine_malformed h, rfl⟩⟩,
    ⟨rollForm_eq_roll_iff, markerForm_eq_marker_iff, classifyLine_eq_roll_iff, classifyLine_eq_marker_iff,
      classifyLine_eq_query_iff, fun chars => ?_⟩,
    fun s cut => ⟨fun chars => received rfl (receiveLine_cut _ cut), fun digits => received rfl (receiveLine_cut _ cut),
      fun code => received rfl (receiveLine_cut _ cut), received rfl (receiveLine_cut _ cut)⟩,
    fun first chars s => ⟨rfl, fun empty => ?_⟩⟩
  · rw [receiveLine_whole _ empty whole, classifyLine_roll form]
    rfl
  · rw [receiveLine_whole _ empty whole, classifyLine_marker form, Odo.takeLine_marker]
    rfl
  · rw [receiveLine_whole _ empty whole, classifyLine_query]
    rfl
  · rw [receiveLine_whole _ empty whole, bad]
    rfl
  · rcases classifyLine_forms chars with h | ⟨digits, v, -, -, h⟩ | ⟨code, -, -, h⟩ | ⟨-, h⟩
    · exact .inl h
    · exact .inr (.inl ⟨v, h⟩)
    · exact .inr (.inr (.inl ⟨code, h⟩))
    · exact .inr (.inr (.inr h))
  · exact congrArg (fun t => Host.Outcome.next (settle t)) (receiveLine_gathered first chars empty)

end Sys2Proof.Machine

namespace Sys2Proof.Machine

-- With it on, the many small proofs start more threads than the check's limits allow.
set_option Elab.async false

/-! ## Fields, CRC and frame (R172) -/

/-- Byte `i` of a quantity, counted from the least significant. -/
theorem leBytes_getD (k v i : Nat) (h : i < k) : (leBytes k v).getD i 0 = BitVec.ofNat 8 (v / 256 ^ i) := by
  induction k generalizing v i with
  | zero => omega
  | succ k ih =>
    cases i with
    | zero => simp [leBytes]
    | succ i =>
      have next := ih (v / 256) i (by omega)
      rw [leBytes, List.getD_cons_succ, next, Nat.div_div_eq_div_mul, Nat.pow_succ']

/-- The CRC of a string one byte longer: the byte is added to the register, which shifts eight times. -/
theorem crc_append (bytes : List Byte) (b : Byte) :
    crc (bytes ++ [b]) =
      (fun r : BitVec 16 => if r.msb then (r <<< 1) ^^^ 0x1021#16 else r <<< 1)^[8]
        (crc bytes ^^^ (b.zeroExtend 16 <<< 8)) := by
  unfold crc
  rw [List.foldl_append]
  rfl

/-- The check value of the generator: the CRC of the text "123456789". -/
theorem crc_check : crc [0x31, 0x32, 0x33, 0x34, 0x35, 0x36, 0x37, 0x38, 0x39] = 0x29B1#16 := by decide +kernel

theorem frame_eq (kind tag : Byte) (payload : List Byte) :
    frame kind tag payload =
      [0xA5, 0x5A, kind, tag] ++ leBytes 2 payload.length ++ payload
        ++ leBytes 2 (crc ([kind, tag] ++ leBytes 2 payload.length ++ payload)).toNat := by
  simp [frame, covered]

theorem downlinkBytes_eq (s : State) : s.downlinkBytes = (s.lnk.tx.map Outgoing.bytes).getD [] := by
  unfold State.downlinkBytes
  cases s.lnk.tx <;> rfl

/-! ## The wall stream (R150, R151, R189) -/

theorem packPairs_length (pixels : List Nat) (even : pixels.length % 2 = 0) :
    (packPairs pixels).length = 3 * pixels.length / 2 := by
  induction pixels using packPairs.induct with
  | case1 a b rest ih =>
    have rest_ := ih (by simp at even; omega)
    simp only [packPairs, List.length_cons, rest_]
    omega
  | case2 pixels short =>
    match pixels, short with
    | [], _ => rfl
    | [_], _ => simp at even
    | a :: b :: rest, short => exact absurd rfl (short a b rest)

/-- The three bytes of pair `i`. -/
theorem packPairs_pair (pixels : List Nat) (i : Nat) (h : 2 * i + 1 < pixels.length) :
    ((packPairs pixels).drop (3 * i)).take 3 =
      [BitVec.ofNat 8 (pixels.getD (2 * i) 0),
        BitVec.ofNat 8 (pixels.getD (2 * i) 0 / 256 + 16 * (pixels.getD (2 * i + 1) 0 % 16)),
        BitVec.ofNat 8 (pixels.getD (2 * i + 1) 0 / 16)] := by
  induction i generalizing pixels with
  | zero =>
    match pixels, h with
    | a :: b :: rest, _ => simp [packPairs]
  | succ i ih =>
    match pixels, h with
    | a :: b :: rest, h =>
      have next := ih rest (by simp at h; omega)
      simpa [packPairs, Nat.mul_add] using next

/-! ## The control stream (R186, R187) -/

theorem postField_eq (p : Option Nat) :
    postField p = leInt 4 (match p with | some v => (v : Int) | none => 0xFFFFFFFF) := by
  cases p with
  | none => exact (leInt_ofNat 4 0xFFFFFFFF).symm
  | some v => exact (leInt_natCast 4 v).symm

theorem markerPayload_eq (m : Marker) (short : m.code.length ≤ 8) :
    markerPayload m =
      laidOut [(1, m.code.length)] ++ m.code ++ List.replicate (8 - m.code.length) 0
        ++ laidOut [(4, m.x), (4, m.frameCounter), (1, bit m.row.isSome), (4, m.row.getD 0)] := by
  have padded (n : Nat) (l : List Byte) (h : l.length ≤ n) : padTo 0 n l = l ++ List.replicate (n - l.length) 0 := by
    induction n generalizing l with
    | zero => simp_all [padTo]
    | succ n ih =>
      cases l with
      | nil => simpa [padTo, List.replicate_succ] using ih [] (Nat.zero_le n)
      | cons x xs => simpa [padTo] using ih xs (by simpa using h)
  rw [markerPayload, padded 8 m.code short]
  simp

/-! ## The preview stream and the crawler port (R156, R23) -/

theorem portBytes_eq (s : State) :
    s.portBytes =
      match s.odo.portTx with
      | none => []
      | some (.response text) => text ++ [0x0D, 0x0A]
      | some (.advisory .go) => [0x56, 0x20, 0x47, 0x0D, 0x0A]
      | some (.advisory .slow) => [0x56, 0x20, 0x53, 0x0D, 0x0A]
      | some (.advisory .hold) => [0x56, 0x20, 0x48, 0x0D, 0x0A] := by
  unfold State.portBytes
  split
  · next idle => rw [idle]
  · next line sending =>
    rw [sending]
    cases line with
    | response text => rfl
    | advisory level => cases level <;> rfl

/-! ## STATUS (R181, R189) -/

/-- The fields of an exposure record and of the position of its frame (R44). -/
theorem frameRecordBytes_eq (r : ExposureRecord) (position : Option Int) :
    frameRecordBytes r position =
      laidOut ([(4, (r.frameNumber : Int)), (1, r.kind.code), (2, r.width), (2, r.height), (1, r.source.code),
        (2, r.exposure)] ++ r.drives.map (fun d : Nat => (2, (d : Int)))
        ++ [(2, (r.roll : Int)), (1, bit r.rollStale), (2, r.columnGen)] ++ presenceFields 4 position) := by
  simp [frameRecordBytes]

theorem bufferStatus_eq (b : Buffer) :
    bufferStatus b = laidOut (
      match b with
      | .free => [(1, 0), (1, 0), (4, 0), (1, 0), (1, 0)]
      | .exposing r _ => [(1, 1), (1, 1), (4, r.frameNumber), (1, 1), (1, r.kind.code)]
      | .ready g => [(1, 2), (1, 1), (4, g.record.frameNumber), (1, 1), (1, g.record.kind.code)]
      | .rendering g => [(1, 3), (1, 1), (4, g.record.frameNumber), (1, 1), (1, g.record.kind.code)]
      | .held g => [(1, 4), (1, 1), (4, g.record.frameNumber), (1, 1), (1, g.record.kind.code)]) := by
  cases b <;> simp [bufferStatus, Buffer.code, Buffer.record?, optBytes]

theorem sectorStatus_eq (u : SectorUpdate) :
    sectorStatus u =
      laidOut ([(4, (u.count : Int)), (4, u.saturated)] ++ presenceFields 4 (u.mean.map Int.ofNat)
        ++ presenceFields 4 (u.post.map Int.ofNat)
        ++ [(1, (bit u.settled : Int)), (1, bit u.pinnedHigh), (1, bit u.capped)]) := by
  simp only [sectorStatus, laidOut_append, laidOut_presenceFields, optInt_natCast]
  simp

theorem optPair_eq (k : Nat) (span : Option (Int × Int)) :
    optPair k span = laidOut (
      match span with
      | some (lo, hi) => [(1, 1), (k, lo), (k, hi)]
      | none => [(1, 0), (k, 0), (k, 0)]) := by
  cases span <;> simp [optPair]

/-- The row entries of the store, counted; the rest are gap entries (R158). -/
theorem rowCount_eq (r : Rws) :
    r.rowCount = r.entries.countP (fun e => match e with | .row _ => true | .gap _ => false) := by
  rw [Rws.rowCount, ← List.countP_eq_length_filter]
  exact congrArg (r.entries.countP ·) (funext fun e => by cases e <;> rfl)

theorem gapCount_eq (r : Rws) : r.gapCount = r.entries.length - r.rowCount := by
  have parts := List.length_eq_countP_add_countP Entry.isRow (l := r.entries)
  rw [Rws.rowCount, Rws.gapCount, ← List.countP_eq_length_filter, ← List.countP_eq_length_filter]
  simp only [Bool.not_eq_true, Bool.decide_eq_false] at parts
  omega

/-- The wall report in transmission and its seq. -/
theorem wallInTransmission_eq (tx : Option Outgoing) :
    optBytes 2 (tx.bind Outgoing.wallSeq?) = laidOut (
      match tx with
      | some (.wall seq _) => [(1, 1), (2, (seq : Int))]
      | _ => [(1, (0 : Int)), (2, 0)]) := by
  match tx with
  | none => simp [optBytes]
  | some (.reply _) | some (.marker _) | some (.control _) | some (.tile _) => simp [Outgoing.wallSeq?, optBytes]
  | some (.wall seq _) => simp [Outgoing.wallSeq?, optBytes]

theorem previewStatus_eq (preview : Option Preview) :
    previewStatus preview = laidOut (
      match preview with
      | some p => [(1, 1), (4, (p.frameNumber : Int)), (4, ((p.hp + 7) / 8 - p.nextTile : Nat))]
      | none => [(1, (0 : Int)), (4, 0), (4, 0)]) := by
  cases preview <;> simp [previewStatus, tileCount]

/-- Settles O47: the codings and the layouts, each from its definition and the laws of `laidOut`. -/
theorem reportsAndStatusFollowTheirLayouts : Obligations.ReportsAndStatusFollowTheirLayouts := by
  refine ⟨fun k v => ⟨leBytes_length k v, leBytes_getD k v⟩, fun _ _ => rfl, ⟨rfl, crc_append, crc_check⟩,
    ⟨fun _ => frame_eq .., fun _ _ => frame_eq .., fun _ _ => frame_eq .., fun _ => frame_eq .., fun _ => frame_eq ..,
      fun _ => frame_eq .., fun _ => frame_eq ..⟩, downlinkBytes_eq, ?codings, ?row, ?pixels, ?gap, ?summary, ?event,
    markerPayload_eq, ?tile, portBytes_eq, ?fsq, ?strip, ?blk, ?odo, ?bcf, ?geo, ?ilc, ?cvt, ?rws, ?tbu, ?lnk⟩
  case codings => exact ⟨rfl, rfl, rfl, rfl, rfl, rfl, rfl, rfl, rfl, rfl, rfl, rfl⟩
  case row =>
    intro seq e
    simp [rowPayload, RowFlags.code, -Int.natCast_add, -Nat.cast_add]
  case pixels =>
    refine fun pixels => ⟨rfl, fun even => ⟨packPairs_length pixels even, fun i inside => ?_⟩⟩
    exact packPairs_pair pixels i (by omega)
  case gap =>
    intro seq g
    simp [gapPayload]
  case summary =>
    intro m
    have posts : postField = _ := funext postField_eq
    simp [summaryPayload, Summary.marks, posts, -Int.natCast_add, -Nat.cast_add] <;> rfl
  case event =>
    intro e
    cases e with
    | frameSlip slips cause frameCounter => cases cause <;> simp [eventPayload, eventFields, Event.code, SlipCause.code]
    | calAborted cause frames => cases cause <;> simp [eventPayload, eventFields, Event.code, AbortCause.code]
    | commitApplied table gen point =>
      cases point <;> simp [eventPayload, eventFields, Event.code, CommitPoint.code, CommitPoint.frame]
    | _ => simp [eventPayload, eventFields, Event.code]
  case tile =>
    intro t
    have pixels : t.lines.flatten.map (BitVec.ofNat 8) = t.lines.flatMap (fun line => line.map (BitVec.ofNat 8)) := by
      rw [List.map_flatten, List.flatMap]
    simp [tilePayload, pixels, -Int.natCast_mul, -Nat.cast_mul]
  case fsq =>
    intro f
    have buffers : f.buffers.all.flatMap bufferStatus =
        bufferStatus f.buffers.b0 ++ bufferStatus f.buffers.b1 ++ bufferStatus f.buffers.b2 := by
      simp [Buffers.all]
    simp only [fsqStatus, SensorRecord.layout, buffers, bufferStatus_eq, heldStatus, frameRecordBytes_eq]
    cases f.buffers.heldFrame with
    | none =>
      simp [emptyRecord, darkRing, presenceFields, FrameKind.code, Source.code] <;> rfl
    | some held =>
      simp [presenceFields] <;> rfl
  case strip =>
    intro s
    simp [stripStatus, StripRecord.layout]
  case blk =>
    intro b nDark
    simp [blkStatus]
  case odo =>
    intro o
    simp [odoStatus, OdometerRecord.layout, AdvisoryRecord.layout, -Nat.cast_min]
  case bcf =>
    intro b
    cases scan : b.lastScan <;>
      simp [bcfStatus, CentreRecord.layout, scan, ScanRecord.code, ScanRecord.frame?, ScanRecord.count?,
        ScanRecord.centroid?, optBytes, optPair]
  case geo =>
    intro g
    cases g <;> simp [geoStatus, Geo.code, Geo.progress, optBytes, -Int.natCast_add, -Nat.cast_add]
  case ilc =>
    intro i
    simp only [ilcStatus, LightRecord.layout, Ilc.reportedSectors, funext sectorStatus_eq]
    cases i.lastUpdate <;> simp [optBytes, optInt, -Nat.cast_list_sum]
  case cvt =>
    intro c
    simp [cvtStatus, optPair_eq, ringCount] <;> rfl
  case rws =>
    intro r tx
    simp [rwsStatus, Rws.fill, gapCount_eq, rowCount_eq, wallInTransmission_eq, previewStatus_eq] <;> rfl
  case tbu =>
    intro t
    simp [tbuStatus, tableStatus]
  case lnk =>
    intro s
    simp only [lnkStatus, freePlaces, Config.replyPlaces, refusalsWaiting, List.countP_eq_length_filter, laidOut_cons,
      laidOut_nil, leInt_natCast, List.append_assoc, List.append_nil]

end Sys2Proof.Machine

/-! # Frame capture: what its commands and events do, and what every step keeps of it -/

namespace Sys2Proof.Machine

-- With it on, the many small proofs start more threads than the check's limits allow.
set_option Elab.async false

/-! ## Operations outside FSQ, ILC and GEO -/

/-- An operation that leaves FSQ, ILC and GEO as they are. -/
structure SameCapture (s t : State) : Prop where
  fsq : t.fsq = s.fsq := by rfl
  ilc : t.ilc = s.ilc := by rfl
  geo : t.geo = s.geo := by rfl

namespace SameCapture

theorem refl (s : State) : SameCapture s s := {}

theorem trans {s t u : State} (h : SameCapture s t) (h' : SameCapture t u) : SameCapture s u where
  fsq := h'.fsq.trans h.fsq
  ilc := h'.ilc.trans h.ilc
  geo := h'.geo.trans h.geo

theorem settle (s : State) : SameCapture s (settle s) := ⟨settle_fsq s, settle_ilc s, settle_geo s⟩

theorem applyIdleCommits (s : State) : SameCapture s (applyIdleCommits s) := by
  rw [applyIdleCommits_frame]; exact {}

theorem keepDelivered (s : State) : SameCapture s (keepDelivered s) := by
  unfold Machine.keepDelivered
  split
  · split <;> exact {}
  all_goals exact {}

theorem resetCalibration (s : State) : SameCapture s (resetCalibration s) := by
  unfold Machine.resetCalibration
  split
  · exact (keepDelivered s).trans {}
  · exact refl s

theorem handOn (k : RenderContext) (item : RowItem) (pixels : List Pixel) (s : State) :
    SameCapture s (handOn k item pixels s) := by
  rw [handOn_frame]; exact {}

theorem reportPhaseErrors (s : State) : SameCapture s (reportPhaseErrors s) := by
  unfold Machine.reportPhaseErrors
  split <;> exact {}

theorem markerReportSent (s : State) : SameCapture s (markerReportSent s) := by
  unfold Machine.markerReportSent
  split <;> exact {}

theorem previewTileSent (s : State) : SameCapture s (previewTileSent s) := by
  unfold Machine.previewTileSent
  split <;> exact {}

end SameCapture

/-- The commands of FSQ, ILC and GEO, and the resets: all that reach those blocks. -/
def reachesCapture : Command → Bool
  | .sensor _ | .light _ | .dark _ | .calibrate | .start | .stop | .relight | .hold | .release | .rerender
  | .resetStream | .resetFull => true
  | .unknown _ | .malformed | .identify _ | .status | .strip _ | .centre _ | .odometer _ | .advisory _ | .preview _
  | .preset _ | .tableWrite .. | .tableRead .. | .commit .. | .sync | .note _ => false

/-- The other commands leave FSQ, ILC and GEO as they are. -/
theorem SameCapture.runCommand (tag : Byte) (c : Command) (s : State) (other : reachesCapture c = false) :
    SameCapture s (runCommand tag c s) := by
  have answered {r : State × Answer} (h : SameCapture s r.1) : SameCapture s (answer tag r) := h.trans {}
  cases c with
  | unknown _ | malformed | identify _ | status => exact {}
  | strip r => exact answered (by unfold cmdStrip; split_ifs <;> exact {})
  | centre r =>
    refine answered ?_
    unfold cmdCentre
    split
    · exact {}
    · split <;> exact {}
  | odometer r => exact answered (by unfold cmdOdometer; split_ifs <;> exact {})
  | advisory r => exact answered (by unfold cmdAdvisory; split_ifs <;> exact {})
  | preview n => exact answered (by unfold cmdPreview; split <;> exact {})
  | preset x => exact answered (by unfold cmdPreset; split_ifs <;> exact {})
  | tableWrite table start values =>
    refine answered ?_
    unfold cmdTableWrite
    split
    · exact {}
    · split <;> exact {}
  | tableRead table copy start count =>
    refine answered ?_
    unfold cmdTableRead
    repeat' split
    all_goals exact {}
  | commit table expected =>
    refine answered ?_
    unfold cmdCommit
    split
    · exact {}
    · dsimp only
      split_ifs
      · exact {}
      · exact {}
      · exact .trans (t := { s with tbu := _ }) {} (applyIdleCommits _)
  | sync =>
    unfold Machine.runCommand cmdSync
    split_ifs <;> exact {}
  | note text =>
    refine answered ?_
    unfold cmdNote
    split
    · exact {}
    · split <;> exact {}
  | sensor | light | dark | calibrate | start | stop | relight | hold | release | rerender | resetStream | resetFull =>
    cases other

/-! ## The cap rule (R114) -/

theorem sum_map_scaled_le (drives : List Nat) (cap total : Nat) :
    (drives.map (fun d => d * cap / total)).sum ≤ drives.sum * cap / total := by
  induction drives with
  | nil => simp
  | cons d rest ih =>
    rw [List.map_cons, List.sum_cons, List.sum_cons, Nat.add_mul]
    exact (Nat.add_le_add_left ih _).trans (Nat.div_add_div_le_add_div ..)

/-- What the cap rule gives does not sum above the cap. -/
theorem capRule_sum_le (cap : Nat) (drives : List Nat) : (capRule cap drives).sum ≤ cap := by
  unfold capRule
  split
  case isFalse within => exact not_lt.mp within
  case isTrue above =>
    refine (sum_map_scaled_le drives cap drives.sum).trans ?_
    rw [Nat.mul_div_cancel_left cap (Nat.zero_lt_of_lt above)]

theorem exposureDrives_sum_le (kind : FrameKind) (drives : List Nat) : (exposureDrives kind drives).sum ≤ drives.sum := by
  cases kind with
  | stream | hold => exact le_rfl
  | dark | calibration => exact Nat.zero_le _

/-- Drives within the cap of the record they stand under (R114). -/
def Ilc.WithinCap (i : Ilc) : Prop := i.drives.sum ≤ i.light.cap

theorem Ilc.atStart_withinCap (i : Ilc) : i.atStart.WithinCap := capRule_sum_le ..

@[simp] theorem Ilc.countLock_drives (i : Ilc) (clean : Bool) : (i.countLock clean).drives = i.drives := by
  unfold Ilc.countLock
  split <;> (try split) <;> rfl

@[simp] theorem Ilc.countLock_light (i : Ilc) (clean : Bool) : (i.countLock clean).light = i.light := by
  unfold Ilc.countLock
  split <;> (try split) <;> rfl

theorem Ilc.update_withinCap (i : Ilc) (frameNumber : Nat) (stats : List SectorStat) (trims : List Nat) :
    (i.update frameNumber stats trims).WithinCap := by
  simpa [Ilc.update, Ilc.WithinCap] using capRule_sum_le ..

@[simp] theorem Ilc.update_light (i : Ilc) (frameNumber : Nat) (stats : List SectorStat) (trims : List Nat) :
    (i.update frameNumber stats trims).light = i.light := by
  simp [Ilc.update]

/-! ## The power cap (R45, R109, R114) -/

/-- An operation that keeps the drives, and what lights the ring, within the cap. A clause not given is that of an operation
that leaves the drives, the LED outputs and the LIGHT record as they are. -/
structure KeepsPower (s t : State) : Prop where
  power : PowerWithinCap s → PowerWithinCap t := by exact id

theorem SameCapture.keepsPower {s t : State} (h : SameCapture s t) : KeepsPower s t where
  power := by rw [PowerWithinCap, PowerWithinCap, h.fsq, h.ilc]; exact id

namespace KeepsPower

theorem refl (s : State) : KeepsPower s s := {}

theorem trans {s t u : State} (h : KeepsPower s t) (h' : KeepsPower t u) : KeepsPower s u := ⟨h'.power ∘ h.power⟩

/-- The drives are put within the cap of the record in force. -/
theorem ilc_set (s : State) (i : Ilc) (light : i.light = s.ilc.light) (drives : i.WithinCap) :
    KeepsPower s { s with ilc := i } where
  power := fun ⟨_, lit⟩ => ⟨drives, by rw [light]; exact lit⟩

/-- The ring goes dark. -/
theorem fsq_dark (s : State) (f : Fsq) (led : f.led = darkRing) : KeepsPower s { s with fsq := f } where
  power := fun ⟨drives, _⟩ => ⟨drives, by rw [led]; exact Nat.zero_le _⟩

theorem setOpState (op : OpState) (s : State) : KeepsPower s (setOpState op s) := by
  rw [setOpState_frame]
  split_ifs <;> exact {}

theorem stopTest (s : State) : KeepsPower s (stopTest s) := by
  unfold Machine.stopTest
  split
  · exact .trans (t := { s with fsq := { s.fsq with holdMark := false } }) {} ((setOpState .idle _).trans {})
  · exact refl s

/-! ### Exposures -/

/-- An exposure is lit with the drives of ILC, or not at all (R44, R45). -/
theorem startExposure (kind : FrameKind) (i : BufferId) (s : State) : KeepsPower s (startExposure kind i s) where
  power := by
    rintro ⟨drives, _⟩
    rw [startExposure_eq]
    exact ⟨drives, (exposureDrives_sum_le kind s.ilc.drives).trans drives⟩

theorem timerExpiry (s : State) : KeepsPower s (timerExpiry s) := by
  have expired (u : State) : KeepsPower u (expire u) := by
    unfold expire
    split
    · exact {}
    · split
      · exact {}
      · exact startExposure ..
  unfold Machine.timerExpiry
  split
  · exact refl s
  · exact .trans (t := { s with fsq := { s.fsq with timer := some s.fsq.sensor.period } }) {} (expired _)

theorem exposureMidpoint (s : State) : KeepsPower s (exposureMidpoint s) := by
  unfold Machine.exposureMidpoint
  split <;> exact {}

theorem exposureEnd (s : State) : KeepsPower s (exposureEnd s) := by
  unfold Machine.exposureEnd
  split
  case h_1 => exact fsq_dark s _ rfl
  all_goals exact refl s

/-! ### Renders and trials -/

theorem tryRenderStart (s : State) : KeepsPower s (tryRenderStart s) := by
  unfold Machine.tryRenderStart
  split
  · split
    · split
      case h_1 => rw [startRender_eq]; exact {}
      all_goals exact refl s
    all_goals exact refl s
  · exact refl s

/-- The update of a render's completion ends with the cap rule (R110 to R118). -/
theorem onStatistics (s : State) (n : Nat) (stats : List SectorStat) (trims : List Nat) :
    KeepsPower s { s with ilc := (s.ilc.onStatistics n stats trims).1 } := by
  unfold Ilc.onStatistics
  split_ifs
  · exact {}
  · exact {}
  · exact ilc_set s _ (s.ilc.update_light ..) (s.ilc.update_withinCap ..)

theorem releaseBuffer (i : BufferId) (f : Frame) (s : State) : KeepsPower s (releaseBuffer i f s) := by
  unfold Machine.releaseBuffer
  split <;> exact {}

theorem finishRender (w : RenderWork) (f : Frame) (s : State) : KeepsPower s (finishRender w f s) := by
  have updated := onStatistics s w.context.frameNumber w.stats w.context.trims
  have idle (u : State) : KeepsPower u { u with geo := .idle } := {}
  have raised (i : ControlItem) (u : State) : KeepsPower u (raise i u) := {}
  exact ((((updated.trans (idle _)).trans (releaseBuffer w.buffer f _)).trans (raised _ _)).trans
    (SameCapture.reportPhaseErrors _).keepsPower).trans ((tryRenderStart _).trans (stopTest _))

theorem rowCompletion (s : State) : KeepsPower s (rowCompletion s) := by
  unfold Machine.rowCompletion completeRow
  split
  case h_1 w geo =>
    split
    case h_2 => exact refl s
    case h_1 =>
      dsimp only
      split
      · exact (SameCapture.handOn ..).keepsPower.trans (finishRender ..)
      · exact (SameCapture.handOn ..).keepsPower.trans {}
  all_goals exact refl s

theorem storeTrialRow (w : TrialWork) (e : RowEntry) (s : State) : KeepsPower s (storeTrialRow w e s) := by
  unfold Machine.storeTrialRow
  dsimp only
  split <;> exact {}

theorem trialRowCompletion (s : State) : KeepsPower s (trialRowCompletion s) := by
  unfold Machine.trialRowCompletion offerTrialRow
  split
  case h_1 =>
    split
    · split
      · exact storeTrialRow ..
      · exact {}
    · exact refl s
  all_goals exact refl s

theorem wallReportSent (s : State) : KeepsPower s (wallReportSent s) := by
  have resumed (u : State) : KeepsPower u (resumeTrial u) := by
    unfold resumeTrial
    split
    case h_1 =>
      split
      · exact storeTrialRow ..
      · exact refl u
    all_goals exact refl u
  unfold Machine.wallReportSent
  split
  · exact .trans (t := fillChanged { freeDownlink s with rws := s.rws.wallSent }) {} (resumed _)
  · exact refl s

/-! ### Readouts -/

theorem calibrationReadout (r : ExposureRecord) (rows : List (List Nat)) (s : State) :
    KeepsPower s (calibrationReadout r rows s) := by
  unfold Machine.calibrationReadout
  dsimp only
  split
  · refine .trans ?_ (setOpState .idle _)
    exact {}
  · refine .trans ?_ (SameCapture.applyIdleCommits _).keepsPower
    exact {}

theorem streamReadout (i : BufferId) (f : Frame) (s : State) : KeepsPower s (streamReadout i f s) := by
  unfold Machine.streamReadout
  split
  · refine .trans ?_ (tryRenderStart _)
    exact {}
  · refine .trans ?_ ((SameCapture.applyIdleCommits _).keepsPower.trans (stopTest _))
    exact {}

theorem readoutCompletion (raw : List (List Sample)) (s : State) : KeepsPower s (readoutCompletion raw s) := by
  unfold Machine.readoutCompletion
  split
  case h_1 i r x _ =>
    dsimp only
    split
    · exact streamReadout ..
    · refine .trans ?_ ((SameCapture.applyIdleCommits _).keepsPower.trans ((tryRenderStart _).trans (stopTest _)))
      exact {}
    · refine .trans ?_ (calibrationReadout r _ _)
      exact {}
    · refine .trans ?_ (.trans (SameCapture.applyIdleCommits _).keepsPower {})
      exact {}
  all_goals exact refl s

/-! ### Commands -/

/-- The new cap rescales the drives and what lights the ring at once (R109, R45). -/
theorem cmdLight (r : LightFields) (s : State) : KeepsPower s (cmdLight r s).1 := by
  unfold Machine.cmdLight
  split
  · exact refl s
  · exact ⟨fun _ => ⟨capRule_sum_le .., capRule_sum_le ..⟩⟩

theorem cmdSensor (r : SensorFields) (s : State) : KeepsPower s (cmdSensor r s).1 := by
  unfold Machine.cmdSensor
  split
  · exact refl s
  · split
    · exact refl s
    · dsimp only
      split
      · exact refl s
      · split
        · exact refl s
        · dsimp only
          split
          · refine .trans ?_ (setOpState .idle _)
            exact {}
          · exact {}

theorem cmdCalibrate (s : State) : KeepsPower s (cmdCalibrate s).1 := by
  unfold Machine.cmdCalibrate
  split_ifs
  · exact refl s
  · exact refl s
  · refine .trans ?_ (setOpState .calibrating _)
    exact {}

/-- START puts the drives at the starting drives, under the cap rule (R105). -/
theorem cmdStart (s : State) : KeepsPower s (cmdStart s).1 := by
  have started : KeepsPower s (startEffects s) :=
    .trans (ilc_set s s.ilc.atStart rfl s.ilc.atStart_withinCap) {}
  unfold Machine.cmdStart
  split_ifs
  case neg => exact started.trans (setOpState .streaming _)
  all_goals exact refl s

theorem cmdStop (s : State) : KeepsPower s (cmdStop s).1 := by
  unfold Machine.cmdStop
  split
  case h_3 =>
    have kept := (SameCapture.keepDelivered s).keepsPower
    exact (kept.trans (fsq_dark _ (keepDelivered s).fsq.abandonExposures rfl)).trans (.trans {} (setOpState .idle _))
  case h_4 =>
    refine .trans ?_ ((setOpState .stopping _).trans (stopTest _))
    exact {}
  all_goals exact refl s

theorem cmdRelight (s : State) : KeepsPower s (cmdRelight s).1 := by
  unfold Machine.cmdRelight
  split
  · exact refl s
  · exact ilc_set s _ rfl s.ilc.atStart_withinCap

theorem cmdHold (s : State) : KeepsPower s (cmdHold s).1 := by
  unfold Machine.cmdHold
  dsimp only
  split
  case h_4 => split_ifs <;> exact {}
  case h_5 =>
    split_ifs
    · exact refl s
    · split
      · exact startExposure ..
      · exact refl s
  all_goals exact refl s

theorem cmdRelease (s : State) : KeepsPower s (cmdRelease s).1 := by
  unfold Machine.cmdRelease
  split
  · exact refl s
  · split
    · split <;> exact {}
    · split_ifs <;> exact {}

theorem cmdRerender (s : State) : KeepsPower s (cmdRerender s).1 := by
  unfold Machine.cmdRerender
  split
  · exact refl s
  · split
    · exact refl s
    · split
      · exact refl s
      · split
        · exact refl s
        · split <;> exact {}

theorem resetStream (s : State) : KeepsPower s (resetStream s) := by
  unfold Machine.resetStream
  dsimp only
  have aborted := (SameCapture.resetCalibration { s with lnk := { s.lnk with controlQueue := [] } }).keepsPower
  refine .trans (t := Machine.resetCalibration _) ⟨aborted.power⟩ ?_
  generalize Machine.resetCalibration _ = u
  exact ((fsq_dark u u.fsq.resetStream rfl).trans {}).trans (setOpState _ _)

theorem fullReset (s : State) : KeepsPower s (fullReset s) where
  power _ := ⟨Nat.zero_le _, Nat.zero_le _⟩

theorem runCommand (tag : Byte) (c : Command) (s : State) : KeepsPower s (runCommand tag c s) := by
  have answered {r : State × Answer} (h : KeepsPower s r.1) : KeepsPower s (answer tag r) := h.trans {}
  cases reaches : reachesCapture c with
  | false => exact (SameCapture.runCommand tag c s reaches).keepsPower
  | true =>
    cases c with
    | sensor r => exact answered (cmdSensor r s)
    | light r => exact answered (cmdLight r s)
    | dark n => exact answered (by unfold cmdDark; split <;> exact {})
    | calibrate => exact answered (cmdCalibrate s)
    | start => exact answered (cmdStart s)
    | stop => exact answered (cmdStop s)
    | relight => exact answered (cmdRelight s)
    | hold => exact answered (cmdHold s)
    | release => exact answered (cmdRelease s)
    | rerender => exact answered (cmdRerender s)
    | resetStream => exact answered (resetStream s)
    | resetFull => exact answered (fullReset s)
    | _ => cases reaches

end KeepsPower

theorem keepsPower_keptByParts : KeptByParts KeepsPower where
  refl := .refl
  trans := .trans
  link _ _ := {}
  pending _ _ := {}
  tick _ := {}
  settle s := (SameCapture.settle s).keepsPower
  runCommand := .runCommand
  fullReset := .fullReset
  timerExpiry := .timerExpiry
  exposureMidpoint := .exposureMidpoint
  exposureEnd := .exposureEnd
  readoutCompletion := .readoutCompletion
  rowCompletion := .rowCompletion
  trialRowCompletion := .trialRowCompletion
  wallReportSent := .wallReportSent
  markerReportSent s := (SameCapture.markerReportSent s).keepsPower
  previewTileSent s := (SameCapture.previewTileSent s).keepsPower
  transition _ _ _ := {}
  closeWindow _ := {}
  receiveLine _ _ := {}
  gatherLine _ _ := {}
  lineSent _ := {}
  advisoryRepeat _ := {}

/-- Settles O55: the cap rule bounds whatever it gives, and every part of a step takes its drives from it. -/
theorem everyStepKeepsThePowerCap : Obligations.EveryStepKeepsThePowerCap :=
  fun s t before h => (keepsPower_keptByParts.step s t h).power before

/-! ## The three buffers (R48) -/

theorem BufferId.forall_iff {P : BufferId → Prop} : (∀ i, P i) ↔ P .b0 ∧ P .b1 ∧ P .b2 :=
  ⟨fun h => ⟨h .b0, h .b1, h .b2⟩, fun ⟨h0, h1, h2⟩ i => by cases i <;> assumption⟩

theorem Buffers.get_set (b : Buffers) (i j : BufferId) (v : Buffer) :
    (b.set i v).get j = if j = i then v else b.get j := by
  split
  case isTrue same => rw [same, Buffers.get_set_same]
  case isFalse other => exact Buffers.get_set_other b i j v other

theorem Buffers.find_some {α : Type} {b : Buffers} {f : Buffer → Option α} {i : BufferId} {x : α}
    (h : b.find f = some (i, x)) : f (b.get i) = some x := by
  unfold Buffers.find at h
  split at h
  case h_1 h0 => cases h; exact h0
  case h_2 =>
    split at h
    case h_1 h1 => cases h; exact h1
    case h_2 =>
      split at h
      case h_1 h2 => cases h; exact h2
      case h_2 => cases h

theorem Buffers.find_eq_none_iff {α : Type} (b : Buffers) (f : Buffer → Option α) :
    b.find f = none ↔ ∀ i, f (b.get i) = none := by
  rw [BufferId.forall_iff]
  unfold Buffers.find
  cases h0 : f b.b0 <;> cases h1 : f b.b1 <;> cases h2 : f b.b2 <;> simp [Buffers.get, h0, h1, h2]

theorem Buffers.any_iff (b : Buffers) (p : Buffer → Bool) : b.all.any p = true ↔ ∃ i, p (b.get i) = true := by
  rw [List.any_eq_true]
  simp only [b.mem_all]
  constructor
  · rintro ⟨x, ⟨i, rfl⟩, hx⟩
    exact ⟨i, hx⟩
  · rintro ⟨i, hi⟩
    exact ⟨_, ⟨i, rfl⟩, hi⟩

/-- A buffer is in a state exactly when a search for that state finds one. -/
theorem Buffers.any_eq_find_isSome {α : Type} (b : Buffers) (f : Buffer → Option α) :
    b.all.any (fun x => (f x).isSome) = (b.find f).isSome := by
  rw [Bool.eq_iff_iff, b.any_iff, ← not_iff_not, Option.not_isSome_iff_eq_none, b.find_eq_none_iff]
  simp

/-- At most one buffer satisfies a test when no two do. -/
theorem Buffers.count_le_one_iff (b : Buffers) (f : Buffer → Bool) :
    b.count f ≤ 1 ↔ ∀ i j, f (b.get i) = true → f (b.get j) = true → i = j := by
  simp only [BufferId.forall_iff]
  unfold Buffers.count Buffers.all
  cases h0 : f b.b0 <;> cases h1 : f b.b1 <;> cases h2 : f b.b2 <;> simp [Buffers.get, h0, h1, h2, List.filter]

theorem Buffer.free?_eq_some_iff (v : Buffer) : v.free? = some () ↔ v = .free := by
  cases v <;> simp [Buffer.free?]

theorem Buffer.exposing?_eq_some_iff (v : Buffer) (r : ExposureRecord) (p : ExposurePhase) :
    v.exposing? = some (r, p) ↔ v = .exposing r p := by
  cases v <;> simp [Buffer.exposing?]

theorem Buffer.held?_eq_some_iff (v : Buffer) (f : Frame) : v.held? = some f ↔ v = .held f := by
  cases v <;> simp [Buffer.held?]

theorem Buffer.ready?_isSome_iff (v : Buffer) : v.ready?.isSome = true ↔ ∃ f, v = .ready f := by
  cases v <;> simp [Buffer.ready?]

theorem Buffer.rendering?_isSome_iff (v : Buffer) : v.rendering?.isSome = true ↔ ∃ f, v = .rendering f := by
  cases v <;> simp [Buffer.rendering?]

/-- The lowest-numbered FREE buffer (R42). -/
theorem Buffers.freeBuffer_eq (b : Buffers) :
    b.freeBuffer =
      if b.b0 = .free then some .b0 else if b.b1 = .free then some .b1 else if b.b2 = .free then some .b2 else none := by
  simp only [← Buffer.free?_eq_some_iff]
  unfold Buffers.freeBuffer Buffers.find
  cases h0 : b.b0.free? <;> cases h1 : b.b1.free? <;> cases h2 : b.b2.free? <;> simp

theorem Buffers.get_of_freeBuffer {b : Buffers} {i : BufferId} (h : b.freeBuffer = some i) : b.get i = .free := by
  obtain ⟨p, found, rfl⟩ := Option.map_eq_some_iff.mp h
  exact (Buffer.free?_eq_some_iff _).mp (Buffers.find_some found)

theorem Buffers.get_of_heldFrame {b : Buffers} {i : BufferId} {f : Frame} (h : b.heldFrame = some (i, f)) :
    b.get i = .held f :=
  (Buffer.held?_eq_some_iff _ f).mp (Buffers.find_some h)

theorem Buffers.anyExposing_eq (b : Buffers) : b.anyExposing = b.exposure.isSome := b.any_eq_find_isSome _

theorem Buffers.anyHeld_eq (b : Buffers) : b.anyHeld = b.heldFrame.isSome := b.any_eq_find_isSome _

theorem Buffers.holdInFlight_iff (b : Buffers) :
    b.holdInFlight = true ↔ ∃ i r p, b.exposure = some (i, r, p) ∧ r.kind = .hold := by
  unfold Buffers.holdInFlight
  rcases b.exposure with _ | ⟨i, r, p⟩ <;> simp

theorem Buffers.anyExposing_eq_false_iff (b : Buffers) :
    b.anyExposing = false ↔ ∀ i, (b.get i).exposing?.isSome = false := by
  rw [← Bool.not_eq_true, Buffers.anyExposing, b.any_iff]
  simp

theorem Buffers.anyRendering_eq_false_iff (b : Buffers) :
    b.anyRendering = false ↔ ∀ i, (b.get i).rendering?.isSome = false := by
  rw [← Bool.not_eq_true, Buffers.anyRendering, b.any_iff]
  simp

theorem Buffers.anyHeld_eq_false_iff (b : Buffers) :
    b.anyHeld = false ↔ ∀ i, (b.get i).held?.isSome = false := by
  rw [← Bool.not_eq_true, Buffers.anyHeld, b.any_iff]
  simp

theorem Buffers.exposure_eq_none_iff (b : Buffers) : b.exposure = none ↔ ∀ i r p, b.get i ≠ .exposing r p := by
  rw [Buffers.exposure, b.find_eq_none_iff]
  refine forall_congr' fun i => ?_
  simp [Option.eq_none_iff_forall_ne_some, Buffer.exposing?_eq_some_iff]

theorem Buffers.heldFrame_eq_none_iff (b : Buffers) : b.heldFrame = none ↔ ∀ i f, b.get i ≠ .held f := by
  rw [Buffers.heldFrame, b.find_eq_none_iff]
  refine forall_congr' fun i => ?_
  simp [Option.eq_none_iff_forall_ne_some, Buffer.held?_eq_some_iff]

end Sys2Proof.Machine

namespace Sys2Proof.Machine

-- With it on, the many small proofs start more threads than the check's limits allow.
set_option Elab.async false

/-! ## Commands of frame capture that are answered at once (R175, R177) -/

theorem exec_sensorRecord_at_once (tag : Byte) (r : SensorFields) (s : State) (ready : Ready s) :
    exec (.sensorRecord tag r) s
      = .next (replied tag (cmdSensor r s).2.code (cmdSensor r s).2.payload (cmdSensor r s).1) :=
  congrArg Host.Outcome.next (arrive_answered ready rfl)

theorem exec_lightRecord_at_once (tag : Byte) (r : LightFields) (s : State) (ready : Ready s) :
    exec (.lightRecord tag r) s
      = .next (replied tag (cmdLight r s).2.code (cmdLight r s).2.payload (cmdLight r s).1) :=
  congrArg Host.Outcome.next (arrive_answered ready rfl)

theorem exec_relight_at_once (tag : Byte) (s : State) (ready : Ready s) :
    exec (.relight tag) s = .next (replied tag (cmdRelight s).2.code (cmdRelight s).2.payload (cmdRelight s).1) :=
  congrArg Host.Outcome.next (arrive_answered ready rfl)

theorem exec_calibrate_at_once (tag : Byte) (s : State) (ready : Ready s) :
    exec (.calibrate tag) s
      = .next (replied tag (cmdCalibrate s).2.code (cmdCalibrate s).2.payload (cmdCalibrate s).1) :=
  congrArg Host.Outcome.next (arrive_answered ready rfl)

theorem exec_start_at_once (tag : Byte) (s : State) (ready : Ready s) :
    exec (.start tag) s = .next (replied tag (cmdStart s).2.code (cmdStart s).2.payload (cmdStart s).1) :=
  congrArg Host.Outcome.next (arrive_answered ready rfl)

theorem exec_stop_at_once (tag : Byte) (s : State) (ready : Ready s) :
    exec (.stop tag) s = .next (replied tag (cmdStop s).2.code (cmdStop s).2.payload (cmdStop s).1) :=
  congrArg Host.Outcome.next (arrive_answered ready rfl)

theorem exec_hold_at_once (tag : Byte) (s : State) (ready : Ready s) :
    exec (.hold tag) s = .next (replied tag (cmdHold s).2.code (cmdHold s).2.payload (cmdHold s).1) :=
  congrArg Host.Outcome.next (arrive_answered ready rfl)

theorem exec_release_at_once (tag : Byte) (s : State) (ready : Ready s) :
    exec (.release tag) s = .next (replied tag (cmdRelease s).2.code (cmdRelease s).2.payload (cmdRelease s).1) :=
  congrArg Host.Outcome.next (arrive_answered ready rfl)

theorem exec_resetStream_at_once (tag : Byte) (s : State) (ready : Ready s) :
    exec (.resetStream tag) s = .next (replied tag .ok [] (resetStream s)) :=
  congrArg Host.Outcome.next (arrive_answered (r := (resetStream s, .ok)) ready rfl)

/-! ## The SENSOR record (R35) -/

/-- The source a SENSOR record names, when it names one. -/
theorem sourceOf_eq (b : Byte) :
    sourceOf b = if b = 0 ∨ b = 1 then some (if b = 1 then .pattern else .sensor) else none := by
  unfold sourceOf
  by_cases zero : b = 0
  · subst zero; rfl
  · by_cases one : b = 1
    · subst one; rfl
    · rw [if_neg zero, if_neg one, if_neg (not_or.mpr ⟨zero, one⟩)]

theorem windowOk_iff (n : Nat) : windowOk n = true ↔ 64 ≤ n ∧ n ≤ 1600 ∧ n % 16 = 0 := by simp [windowOk]

/-- Settles O8, check by check in the order of R35. -/
theorem sensorRecordIsCheckedAndInstalled : Obligations.SensorRecordIsCheckedAndInstalled := by
  intro tag r s ready
  dsimp only
  rw [exec_sensorRecord_at_once tag r s ready]
  unfold cmdSensor
  by_cases state : s.fsq.opState ≠ .unconfigured ∧ s.fsq.opState ≠ .idle
  · rw [if_pos state, if_pos state]
    rfl
  · rw [if_neg state, if_neg state, sourceOf_eq]
    by_cases source : r.source = 0 ∨ r.source = 1
    · rw [if_pos source]
      dsimp only
      by_cases window : windowOk r.width.toNat = true ∧ windowOk r.height.toNat = true
      · obtain ⟨width, height⟩ := window
        rw [if_neg (by simp [width, height]),
          if_neg (not_not_intro ⟨(windowOk_iff _).mp width, (windowOk_iff _).mp height, source⟩)]
        simp only [Bool.or_eq_true, Bool.and_eq_true, decide_eq_true_eq]
        split
        · rfl
        · simp only [Answer.okOrClamped_eq]
      · rw [if_pos (by simpa [imp_iff_not_or] using window)]
        rw [if_pos (by simp only [← windowOk_iff]; tauto)]
        rfl
    · rw [if_neg source, if_pos (by tauto)]
      rfl

/-! ## The LIGHT record and RELIGHT (R106, R107) -/

theorem Buffer.pendingStream_iff (b : Buffer) :
    b.pendingStream = true ↔
      (∃ r p, b = .exposing r p ∧ r.kind = .stream) ∨ (∃ f, b = .ready f) ∨ ∃ f, b = .rendering f := by
  cases b <;> simp [Buffer.pendingStream]

/-- Settles O10: the record's fields and the cap rule are those of the model, and RELIGHT's values are START's. -/
theorem lightRecordAndRelight : Obligations.LightRecordAndRelight := by
  refine ⟨fun tag r s ready => ?_, fun tag s ready => ?_, fun buffers test => ?_, Buffer.pendingStream_iff⟩
  · dsimp only
    rw [exec_lightRecord_at_once tag r s ready]
    unfold cmdLight
    by_cases unconfigured : s.fsq.opState = .unconfigured
    · rw [if_pos unconfigured, if_pos unconfigured]
      rfl
    · rw [if_neg unconfigured, if_neg unconfigured]
      simp only [Answer.okOrClamped_eq]
      rfl
  · rw [exec_relight_at_once tag s ready]
    unfold cmdRelight
    by_cases other : s.fsq.opState ≠ .streaming
    · rw [if_pos other, if_pos other]
      rfl
    · rw [if_neg other, if_neg other]
      rfl
  · exact (List.countP_eq_length_filter ..).symm

/-! ## CALIBRATE and START (R37, R40) -/

/-- Settles O19, check by check in the order of R40 and of R37. -/
theorem calibrateAndStartArmTheTimer : Obligations.CalibrateAndStartArmTheTimer := by
  refine ⟨fun tag s ready => ?_, fun tag s ready => ?_⟩
  · rw [exec_calibrate_at_once tag s ready]
    unfold cmdCalibrate
    split_ifs <;> rfl
  · rw [exec_start_at_once tag s ready]
    unfold cmdStart
    simp only [Bool.not_eq_true', Bool.or_eq_true]
    split_ifs <;> rfl

/-! ## What an abandoned calibration readout leaves (R62) -/

/-- A row takes nothing from a column's sum. -/
theorem addRow_getD_ge (sums row : List Nat) (x : Nat) : sums.getD x 0 ≤ (addRow sums row).getD x 0 := by
  induction sums generalizing row x with
  | nil => exact Nat.zero_le _
  | cons y sums ih =>
    cases row with
    | nil => exact le_rfl
    | cons z row =>
      cases x with
      | zero => exact Nat.le_add_right y z
      | succ x => simpa [addRow] using ih row x

theorem Blk.accumulate_getD_ge (b : Blk) (rows : List (List Nat)) (x : Nat) :
    b.colSums.getD x 0 ≤ (b.accumulate rows).colSums.getD x 0 := by
  unfold Blk.accumulate
  dsimp only
  induction rows generalizing b with
  | nil => exact le_rfl
  | cons row rest ih => exact (addRow_getD_ge b.colSums row x).trans (ih { b with colSums := addRow b.colSums row })

/-- What had been delivered counts once the readout of a calibration's exposure has begun, and nothing before (R62). -/
theorem keepDelivered_cases (s : State) :
    (∃ i r x, s.fsq.buffers.exposure = some (i, r, .readout x) ∧ r.kind = .calibration
      ∧ keepDelivered s =
        { s with blk := s.blk.accumulate (deliveredRows s.freeIx r), freeIx := s.freeIx + 1 })
    ∨ (∀ i r x, s.fsq.buffers.exposure = some (i, r, .readout x) → r.kind ≠ .calibration) ∧ keepDelivered s = s := by
  rcases phase : s.fsq.buffers.exposure with _ | ⟨i, r, _ | x | x⟩
  case some.readout =>
    by_cases calibration : r.kind = .calibration
    · exact .inl ⟨i, r, x, rfl, calibration, by simp [keepDelivered, phase, calibration]⟩
    · refine .inr ⟨fun _ _ _ same => ?_, by simp [keepDelivered, phase, calibration]⟩
      cases same
      exact calibration
  all_goals exact .inr ⟨nofun, by simp [keepDelivered, phase]⟩

/-- The sums and the saturated count are all of BLK that it reaches. -/
theorem keepDelivered_frame (s : State) :
    keepDelivered s = { s with blk := (keepDelivered s).blk, freeIx := (keepDelivered s).freeIx }
      ∧ (keepDelivered s).blk =
        { s.blk with
          colSums := (keepDelivered s).blk.colSums, calSaturated := (keepDelivered s).blk.calSaturated } := by
  rcases keepDelivered_cases s with ⟨i, r, x, -, -, kept⟩ | ⟨-, kept⟩
  all_goals rw [kept]; exact ⟨rfl, rfl⟩

/-! ## STOP (R38, R39) -/

/-- STOP in CALIBRATING, with what the abandoned readout leaves in BLK (R62). -/
theorem stopCalibration_eq (s : State) :
    stopCalibration s =
      setOpState .idle (raiseEvent (.calAborted .stop s.blk.calFrames)
        { s with
          fsq := s.fsq.abandonExposures
          blk := (keepDelivered s).blk
          freeIx := (keepDelivered s).freeIx }) := by
  obtain ⟨state, blk⟩ := keepDelivered_frame s
  unfold stopCalibration
  dsimp only
  rw [blk]
  rw [state]

theorem stopTest_ends {s : State} (stopping : s.fsq.opState = .stopping) (dark : s.fsq.buffers.anyExposing = false)
    (still : s.fsq.buffers.anyRendering = false) :
    stopTest s = raiseEvent (.stopped s.fsq.discardCount s.fsq.frameCounter s.fsq.holdMark)
      (setOpState .idle { s with fsq := { s.fsq with holdMark := false } }) := by
  unfold stopTest
  simp [stopping, dark, still]

theorem stopTest_waits {s : State} (h : s.fsq.opState ≠ .stopping ∨ s.fsq.buffers.anyExposing = true
    ∨ s.fsq.buffers.anyRendering = true) : stopTest s = s := by
  unfold stopTest
  refine if_neg ?_
  rintro ⟨stopping, dark, still⟩
  simp_all

/-- Settles O20: STOP by operating state, then its test, what an abandoned readout leaves, and the buffers. -/
theorem stopActsByOperatingState : Obligations.StopActsByOperatingState := by
  refine ⟨fun tag s ready => ?_, fun s => ⟨stopTest_ends, stopTest_waits⟩, fun s => ?_, fun _ _ => rfl, fun b => ?_⟩
  · rw [exec_stop_at_once tag s ready]
    unfold cmdStop
    cases op : s.fsq.opState with
    | unconfigured | idle | streaming | stopping => rfl
    | calibrating => exact congrArg (fun t => Host.Outcome.next (replied tag .ok [] t)) (stopCalibration_eq s)
  · obtain ⟨state, blk⟩ := keepDelivered_frame s
    refine ⟨state, blk, ?_⟩
    rcases keepDelivered_cases s with ⟨i, r, x, phase, calibration, kept⟩ | ⟨none, kept⟩
    · rw [kept]
      exact ⟨s.blk.accumulate_colSums_length _, s.blk.accumulate_getD_ge _, Nat.le_add_right _ _,
        fun other => absurd calibration (other i r x phase), fun _ _ _ _ _ => rfl⟩
    · rw [kept]
      exact ⟨rfl, fun _ => le_rfl, le_rfl, fun _ => rfl,
        fun i r x phase calibration => absurd calibration (none i r x phase)⟩
  · refine ⟨?_, ?_, Buffer.ready?_isSome_iff b⟩ <;> cases b <;> rfl

/-! ## HOLD and RELEASE (R51 to R53) -/

theorem Geo.inTrial_iff (g : Geo) : g.inTrial = true ↔ (∃ w, g = .trial w) ∨ ∃ w e, g = .trialWait w e := by
  cases g <;> simp [Geo.inTrial]

/-- Settles O21: HOLD in the order of its checks, RELEASE by what is held, and what the words for the buffers say. -/
theorem holdAndRelease : Obligations.HoldAndRelease := by
  refine ⟨fun tag s ready => ?_, fun tag s ready => ?_, fun b => ?_, Geo.inTrial_iff⟩
  · rw [exec_hold_at_once tag s ready]
    unfold cmdHold
    simp only [Bool.or_eq_true, or_assoc, Buffers.freeBuffer_eq]
    cases op : s.fsq.opState with
    | unconfigured | calibrating | stopping => rfl
    | streaming =>
      have allowed : ¬ (OpState.streaming ≠ .idle ∧ OpState.streaming ≠ .streaming) := by simp
      rw [if_neg allowed, if_pos (rfl : OpState.streaming = .streaming)]
      dsimp only
      split <;> rfl
    | idle =>
      have allowed : ¬ (OpState.idle ≠ .idle ∧ OpState.idle ≠ .streaming) := by simp
      rw [if_neg allowed, if_neg (nofun : OpState.idle ≠ .streaming)]
      dsimp only
      split_ifs <;> rfl
  · rw [exec_release_at_once tag s ready]
    unfold cmdRelease
    refine ⟨fun unconfigured => ?_, fun configured i f held => ?_, fun configured none => ?_⟩
    · rw [if_pos unconfigured]
      rfl
    · rw [if_neg configured, held]
      dsimp only
      split_ifs <;> rfl
    · rw [if_neg configured, none]
      dsimp only
      split_ifs <;> rfl
  · refine ⟨⟨rfl, rfl, rfl⟩, fun i r p => Buffers.get_of_exposure, b.exposure_eq_none_iff, b.anyExposing_eq,
      b.holdInFlight_iff, fun i f => Buffers.get_of_heldFrame, b.heldFrame_eq_none_iff, b.anyHeld_eq, ?_, b.get_set⟩
    simp only [Buffers.anyRendering, b.any_iff, Buffer.rendering?_isSome_iff]

/-! ## The frame timer (R41 to R43) -/

theorem expiryKind_eq (s : State) :
    expiryKind s =
      if s.fsq.opState = .calibrating then .calibration
      else if s.fsq.nDark ≠ 0 ∧ s.fsq.nDark ≤ s.fsq.darkCounter then .dark
      else .stream := by
  simp only [expiryKind, Fsq.darkDue, decide_eq_true_eq]

/-- Settles O26: the expiry of a running timer looks for an exposure in flight and then for a FREE buffer. -/
theorem timerExpiryStartsOrSlips : Obligations.TimerExpiryStartsOrSlips := by
  intro s
  dsimp only
  have outcome {t : State} (h : timerExpiry s = t) : exec .frameTimerExpiry s = .next (settle t) := h ▸ rfl
  refine ⟨fun stopped => outcome ?_, fun running => outcome ?_⟩
  · unfold timerExpiry
    rw [stopped]
  · obtain ⟨interval, loaded⟩ := Option.ne_none_iff_exists'.mp running
    unfold timerExpiry
    rw [loaded]
    dsimp only
    unfold expire
    rw [Buffers.freeBuffer_eq, expiryKind_eq]
    dsimp only
    split_ifs <;> rfl

/-! ## Readout completion (R47, R60 to R62) -/

theorem readoutCompletion_none {s : State} (raw : List (List Sample))
    (h : ∀ i r x, s.fsq.buffers.exposure ≠ some (i, r, .readout x)) : readoutCompletion raw s = s := by
  unfold readoutCompletion
  rcases phase : s.fsq.buffers.exposure with _ | ⟨i, r, _ | x | x⟩
  case some.readout => exact absurd phase (h i r x)
  all_goals rfl

/-- Settles O28, kind by kind; a calibration's readout by whether it is the sixteenth. -/
theorem readoutCompletionPassesTheBufferOn : Obligations.ReadoutCompletionPassesTheBufferOn := by
  refine ⟨fun raw s none => congrArg (fun t => Host.Outcome.next (settle t)) (readoutCompletion_none raw none),
    fun raw s i r x phase => ?_⟩
  dsimp only
  have outcome {t : State} (h : readoutCompletion raw s = t) : exec (.readoutCompletion raw) s = .next (settle t) :=
    h ▸ rfl
  refine ⟨fun stream streaming => outcome ?_, fun stream other => outcome ?_, fun dark => outcome ?_,
    fun hold => outcome ?_, fun calibration count => outcome ?_, fun calibration count => outcome ?_⟩
  all_goals unfold readoutCompletion; rw [phase]; dsimp only
  · rw [stream]
    exact if_pos streaming
  · rw [stream]
    exact if_neg other
  · rw [dark]
  · rw [hold]
  · rw [calibration]
    exact if_neg (fun sixteen => count (Nat.succ.inj sixteen))
  · rw [calibration]
    dsimp only
    unfold calibrationReadout
    dsimp only
    have summed : (s.blk.accumulate (rawSamples r raw)).calFrames = 15 := count
    rw [summed]
    rfl

end Sys2Proof.Machine

namespace Sys2Proof.Machine

-- With it on, the many small proofs start more threads than the check's limits allow.
set_option Elab.async false

/-! ## The buffers, their order, the hold mark and GEO (R48 to R52, R68) -/

/-- The buffers, the order of the READY ones, the hold mark and GEO agree in an operating state, but for a READY buffer that
may yet wait with GEO idle: so it is between the events of one step that end with the test of R49. -/
structure BuffersStand (op : OpState) (b : Buffers) (order : List BufferId) (mark : Bool) (g : Geo) : Prop where
  oneExposing : ∀ i j, (b.get i).exposing?.isSome = true → (b.get j).exposing?.isSome = true → i = j
  oneRendering : ∀ i j, (b.get i).rendering?.isSome = true → (b.get j).rendering?.isSome = true → i = j
  oneHeld : ∀ i j, (b.get i).held?.isSome = true → (b.get j).held?.isSome = true → i = j
  fits : ∀ i, (b.get i).fitsState op
  work : g.fitsBuffers op b
  nodup : order.Nodup
  queued : ∀ i, i ∈ order ↔ (b.get i).ready?.isSome = true
  marked : mark = true → (op = .streaming ∨ op = .stopping) ∧ ∀ i, (b.get i).held?.isSome = false
  holding : ∀ i r p, b.get i = .exposing r p → r.kind = .hold → ∀ j, (b.get j).held?.isSome = false

/-- The state's buffers stand. -/
abbrev Stands (s : State) : Prop := BuffersStand s.fsq.opState s.fsq.buffers s.fsq.readyOrder s.fsq.holdMark s.geo

/-- No READY buffer waits while GEO is idle (R49). -/
abbrev NoneWaits (s : State) : Prop := s.geo = .idle → s.fsq.readyOrder = []

/-- The part's buffers are in order: they stand, and no READY one waits while GEO is idle. -/
structure Ordered (s : State) : Prop where
  stands : Stands s
  noneWaits : NoneWaits s

theorem Buffers.holdInFlight_false_iff {b : Buffers}
    (one : ∀ i j, (b.get i).exposing?.isSome = true → (b.get j).exposing?.isSome = true → i = j) :
    b.holdInFlight = false ↔ ∀ i r p, b.get i = .exposing r p → r.kind ≠ .hold := by
  rw [← Bool.not_eq_true, b.holdInFlight_iff]
  constructor
  · intro none i r p exposing hold
    rcases found : b.exposure with _ | ⟨j, r', p'⟩
    · exact b.exposure_eq_none_iff.mp found i r p exposing
    · have exposing' := Buffers.get_of_exposure found
      obtain rfl : i = j := one i j (by simp [exposing, Buffer.exposing?]) (by simp [exposing', Buffer.exposing?])
      rw [exposing] at exposing'
      cases exposing'
      exact none ⟨i, r, p, found, hold⟩
  · rintro none ⟨i, r, p, found, hold⟩
    exact none i r p (Buffers.get_of_exposure found) hold

theorem buffersCoherent_iff (s : State) : BuffersCoherent s ↔ Ordered s := by
  have fits : (∀ v ∈ s.fsq.buffers.all, v.fitsState s.fsq.opState)
      ↔ ∀ i, (s.fsq.buffers.get i).fitsState s.fsq.opState := by
    simp only [Buffers.mem_all]
    exact ⟨fun h i => h _ ⟨i, rfl⟩, fun h v ⟨i, same⟩ => same ▸ h i⟩
  have queued : (∀ i ∈ [BufferId.b0, .b1, .b2], i ∈ s.fsq.readyOrder ↔ (s.fsq.buffers.get i).ready?.isSome = true)
      ↔ ∀ i, i ∈ s.fsq.readyOrder ↔ (s.fsq.buffers.get i).ready?.isSome = true := by
    simp [BufferId.forall_iff]
  have holding (one : ∀ i j, (s.fsq.buffers.get i).exposing?.isSome = true →
      (s.fsq.buffers.get j).exposing?.isSome = true → i = j) :
      (s.fsq.buffers.holdInFlight = true → s.fsq.buffers.anyHeld = false)
        ↔ ∀ i r p, s.fsq.buffers.get i = .exposing r p → r.kind = .hold →
          ∀ j, (s.fsq.buffers.get j).held?.isSome = false := by
    rw [Buffers.anyHeld_eq_false_iff]
    have none := Buffers.holdInFlight_false_iff one
    constructor
    · intro h i r p exposing hold
      refine h (Bool.not_eq_false _ ▸ fun dark => ?_)
      exact none.mp dark i r p exposing hold
    · intro h inFlight j
      obtain ⟨i, r, p, found, hold⟩ := s.fsq.buffers.holdInFlight_iff.mp inFlight
      exact h i r p (Buffers.get_of_exposure found) hold j
  simp only [BuffersCoherent, Buffers.count_le_one_iff, fits, queued]
  constructor
  · rintro ⟨exposing, rendering, held, fit, work, nodup, inOrder, waits, mark, hold⟩
    refine ⟨⟨exposing, rendering, held, fit, work, nodup, inOrder, ?_, (holding exposing).mp hold⟩, waits⟩
    simpa only [Buffers.anyHeld_eq_false_iff] using mark
  · rintro ⟨⟨exposing, rendering, held, fit, work, nodup, inOrder, mark, hold⟩, waits⟩
    refine ⟨exposing, rendering, held, fit, work, nodup, inOrder, waits, ?_, (holding exposing).mpr hold⟩
    simpa only [Buffers.anyHeld_eq_false_iff] using mark

/-- GEO looks at no more of the buffers than which are RENDERING and which HELD. -/
theorem Geo.fitsBuffers_congr {g : Geo} {op : OpState} {b b' : Buffers}
    (rendering : ∀ i, (b'.get i).rendering?.isSome = (b.get i).rendering?.isSome)
    (held : ∀ i, (b'.get i).held?.isSome = (b.get i).held?.isSome) (h : g.fitsBuffers op b) : g.fitsBuffers op b' := by
  have any : b'.anyRendering = b.anyRendering := by
    rw [Bool.eq_iff_iff, Buffers.anyRendering, Buffers.anyRendering, Buffers.any_iff, Buffers.any_iff]
    simp only [rendering]
  cases g <;> simpa only [Geo.fitsBuffers, rendering, held, any] using h

namespace BuffersStand

variable {op : OpState} {b : Buffers} {order : List BufferId} {mark : Bool} {g : Geo}

theorem not_ready (h : BuffersStand op b order mark g) (other : op ≠ .streaming) (i : BufferId) :
    (b.get i).ready?.isSome = false := by
  have fit := h.fits i
  cases v : b.get i with
  | ready f => exact absurd (by simpa [v, Buffer.fitsState] using fit) other
  | free | exposing | rendering | held => rfl

theorem order_nil (h : BuffersStand op b order mark g) (other : op ≠ .streaming) : order = [] := by
  refine List.eq_nil_iff_forall_not_mem.mpr fun i queued => ?_
  have ready := (h.queued i).mp queued
  rw [h.not_ready other i] at ready
  cases ready

theorem not_rendering (h : BuffersStand op b order mark g) (notStreaming : op ≠ .streaming) (notStopping : op ≠ .stopping)
    (i : BufferId) : (b.get i).rendering?.isSome = false := by
  have fit := h.fits i
  cases v : b.get i with
  | rendering f => simp [v, Buffer.fitsState, notStreaming, notStopping] at fit
  | free | exposing | ready | held => rfl

/-- A render in flight has a frame of the stream (R49, R39). -/
theorem no_render (h : BuffersStand op b order mark g) (notStreaming : op ≠ .streaming) (notStopping : op ≠ .stopping)
    (w : RenderWork) : g ≠ .render w := by
  rintro rfl
  have ⟨rendering, _⟩ := h.work
  rw [h.not_rendering notStreaming notStopping w.buffer] at rendering
  cases rendering

theorem idle_of_hold (h : BuffersStand op b order mark g) {i : BufferId} {r : ExposureRecord} {p : ExposurePhase}
    (inFlight : b.get i = .exposing r p) (hold : r.kind = .hold) : op = .idle := by
  have fit := h.fits i
  simpa [inFlight, Buffer.fitsState, hold] using fit

/-! ### A buffer passes on -/

/-- A buffer takes a state that is RENDERING or HELD where its old state was. -/
theorem set_unseen (h : BuffersStand op b order mark g) {i : BufferId} {v : Buffer} {order' : List BufferId}
    (rendering : v.rendering?.isSome = (b.get i).rendering?.isSome)
    (held : v.held?.isSome = (b.get i).held?.isSome)
    (exposing : v.exposing?.isSome = true → ∀ j, j ≠ i → (b.get j).exposing?.isSome = false)
    (fits : v.fitsState op) (nodup : order'.Nodup)
    (queued : ∀ j, j ∈ order' ↔ ((b.set i v).get j).ready?.isSome = true)
    (holding : ∀ r p, v = .exposing r p → r.kind = .hold → ∀ j, (b.get j).held?.isSome = false) :
    BuffersStand op (b.set i v) order' mark g := by
  have rendering' (j : BufferId) : ((b.set i v).get j).rendering?.isSome = (b.get j).rendering?.isSome := by
    grind [Buffers.get_set]
  have held' (j : BufferId) : ((b.set i v).get j).held?.isSome = (b.get j).held?.isSome := by
    grind [Buffers.get_set]
  exact
    { oneExposing := by grind [Buffers.get_set, h.oneExposing]
      oneRendering := by simpa only [rendering'] using h.oneRendering
      oneHeld := by simpa only [held'] using h.oneHeld
      fits := by grind [Buffers.get_set, h.fits]
      work := Geo.fitsBuffers_congr rendering' held' h.work
      nodup := nodup
      queued := queued
      marked := by simpa only [held'] using h.marked
      holding := by simp only [held']; grind [Buffers.get_set, h.holding] }

theorem dark_elsewhere (h : BuffersStand op b order mark g) {i : BufferId} {r : ExposureRecord} {p : ExposurePhase}
    (inFlight : b.get i = .exposing r p) (j : BufferId) (other : j ≠ i) : (b.get j).exposing?.isSome = false := by
  by_contra exposing
  rw [Bool.not_eq_false] at exposing
  exact other (h.oneExposing j i exposing (by rw [inFlight]; rfl))

/-- An exposure starts in a FREE buffer while none is in flight (R44). -/
theorem expose (h : BuffersStand op b order mark g) {i : BufferId} (free : b.get i = .free)
    (dark : ∀ j, (b.get j).exposing?.isSome = false) (r : ExposureRecord) (p : ExposurePhase)
    (fits : (Buffer.exposing r p).fitsState op) (holding : r.kind = .hold → ∀ j, (b.get j).held?.isSome = false) :
    BuffersStand op (b.set i (.exposing r p)) order mark g :=
  h.set_unseen (by rw [free]; rfl) (by rw [free]; rfl) (fun _ j _ => dark j) fits h.nodup
    (by grind [Buffers.get_set, h.queued, Buffer.ready?]) (by rintro r' p' ⟨⟩; exact holding)

/-- The exposure in flight goes into its next phase (R46). -/
theorem nextPhase (h : BuffersStand op b order mark g) {i : BufferId} {r : ExposureRecord} {p : ExposurePhase}
    (inFlight : b.get i = .exposing r p) (p' : ExposurePhase) :
    BuffersStand op (b.set i (.exposing r p')) order mark g :=
  h.set_unseen (by rw [inFlight]; rfl) (by rw [inFlight]; rfl) (fun _ => h.dark_elsewhere inFlight)
    (by have fit := h.fits i; rwa [inFlight] at fit) h.nodup (by grind [Buffers.get_set, h.queued, Buffer.ready?])
    (by rintro r' p'' ⟨⟩; exact h.holding i r p inFlight)

/-- The exposure in flight ends and its buffer is FREE (R47). -/
theorem endExposure (h : BuffersStand op b order mark g) {i : BufferId} {r : ExposureRecord} {p : ExposurePhase}
    (inFlight : b.get i = .exposing r p) : BuffersStand op (b.set i .free) order mark g :=
  h.set_unseen (by rw [inFlight]; rfl) (by rw [inFlight]; rfl) nofun trivial h.nodup
    (by grind [Buffers.get_set, h.queued, Buffer.ready?]) nofun

/-- A frame joins the READY ones behind the others (R47, R49). -/
theorem enqueue (h : BuffersStand op b order mark g) {i : BufferId} {r : ExposureRecord} {p : ExposurePhase}
    (inFlight : b.get i = .exposing r p) (f : Frame) (streaming : op = .streaming) :
    BuffersStand op (b.set i (.ready f)) (order ++ [i]) mark g := by
  have notQueued : i ∉ order := fun queued => by
    have ready := (h.queued i).mp queued
    simp [inFlight, Buffer.ready?] at ready
  refine h.set_unseen (by rw [inFlight]; rfl) (by rw [inFlight]; rfl) nofun streaming ?_ ?_ nofun
  · exact List.nodup_append.mpr ⟨h.nodup, List.nodup_singleton i, by grind⟩
  · grind [Buffers.get_set, h.queued, Buffer.ready?]

/-- A HOLD exposure's frame is HELD (R52): no buffer was, for the exposure was in flight. -/
theorem holdFrame (h : BuffersStand op b order mark g) {i : BufferId} {r : ExposureRecord} {p : ExposurePhase}
    (inFlight : b.get i = .exposing r p) (hold : r.kind = .hold) (f : Frame) :
    BuffersStand op (b.set i (.held f)) order mark g := by
  have none := h.holding i r p inFlight hold
  have idle := h.idle_of_hold inFlight hold
  have rendering (j : BufferId) : ((b.set i (.held f)).get j).rendering?.isSome = (b.get j).rendering?.isSome := by
    grind [Buffers.get_set, Buffer.rendering?]
  exact
    { oneExposing := by grind [Buffers.get_set, h.oneExposing, Buffer.exposing?]
      oneRendering := by simpa only [rendering] using h.oneRendering
      oneHeld := by grind [Buffers.get_set]
      fits := by grind [Buffers.get_set, h.fits]
      work := by
        have work := h.work
        have still : (b.set i (.held f)).anyRendering = b.anyRendering := by
          rw [Bool.eq_iff_iff, Buffers.anyRendering, Buffers.anyRendering, Buffers.any_iff, Buffers.any_iff]
          simp only [rendering]
        cases g with
        | idle => exact still.trans work
        | render w => exact absurd rfl (h.no_render (by simp [idle]) (by simp [idle]) w)
        | trial w | trialWait w e => exact absurd work.1 (by simp [none])
      nodup := h.nodup
      queued := by grind [Buffers.get_set, h.queued, Buffer.ready?]
      marked := fun marked => absurd (h.marked marked).1 (by simp [idle])
      holding := by
        intro j r' p' exposing
        have dark := h.dark_elsewhere inFlight j
        grind [Buffers.get_set, Buffer.exposing?] }

/-- The oldest READY frame begins to be rendered, GEO being idle (R49). -/
theorem render (h : BuffersStand op b order mark .idle) {i : BufferId} {rest : List BufferId} {f : Frame}
    (streaming : op = .streaming) (oldest : order = i :: rest) (ready : b.get i = .ready f) {w : RenderWork}
    (buffer : w.buffer = i) (rows : w.done < w.rows.length) :
    BuffersStand op (b.set i (.rendering f)) rest mark (.render w) := by
  have still : ∀ j, (b.get j).rendering?.isSome = false := (Buffers.anyRendering_eq_false_iff b).mp h.work
  have held (j : BufferId) : ((b.set i (.rendering f)).get j).held?.isSome = (b.get j).held?.isSome := by
    grind [Buffers.get_set, Buffer.held?]
  have ⟨notRest, nodup⟩ := List.nodup_cons.mp (oldest ▸ h.nodup)
  exact
    { oneExposing := by grind [Buffers.get_set, h.oneExposing, Buffer.exposing?]
      oneRendering := by grind [Buffers.get_set]
      oneHeld := by simpa only [held] using h.oneHeld
      fits := by grind [Buffers.get_set, h.fits]
      work := ⟨by rw [buffer, Buffers.get_set_same]; rfl, rows⟩
      nodup := nodup
      queued := by grind [Buffers.get_set, h.queued, Buffer.ready?]
      marked := by simpa only [held] using h.marked
      holding := by simp only [held]; grind [Buffers.get_set, h.holding] }

/-- The frame RENDERING leaves its buffer, HELD when the hold mark is set and FREE otherwise; GEO is idle (R50). -/
theorem finish {w : RenderWork} (h : BuffersStand op b order mark (.render w)) {f : Frame}
    (rendering : b.get w.buffer = .rendering f) :
    BuffersStand op (b.set w.buffer (if mark then .held f else .free)) order false .idle := by
  have fit := h.fits w.buffer
  have noneHeld (marked : mark = true) := (h.marked marked).2
  exact
    { oneExposing := by grind [Buffers.get_set, h.oneExposing, Buffer.exposing?]
      oneRendering := by grind [Buffers.get_set, h.oneRendering, Buffer.rendering?]
      oneHeld := by grind [Buffers.get_set, h.oneHeld, Buffer.held?]
      fits := by grind [Buffers.get_set, h.fits]
      work := by
        refine (Buffers.anyRendering_eq_false_iff _).mpr fun j => ?_
        have one := h.oneRendering j w.buffer
        grind [Buffers.get_set, Buffer.rendering?]
      nodup := h.nodup
      queued := by grind [Buffers.get_set, h.queued, Buffer.ready?]
      marked := nofun
      holding := by
        intro j r p exposing hold k
        have exposing' : b.get j = .exposing r p := by grind [Buffers.get_set]
        have idle := h.idle_of_hold exposing' hold
        have unmarked : mark ≠ true := fun marked => absurd (h.marked marked).1 (by simp [idle])
        have none := h.holding j r p exposing' hold k
        grind [Buffers.get_set, Buffer.held?] }

/-- A HELD buffer is released while no trial reads it (R53). -/
theorem release (h : BuffersStand op b order mark g) {i : BufferId} {f : Frame} (held : b.get i = .held f)
    (noTrial : g.inTrial = false) : BuffersStand op (b.set i .free) order mark g := by
  have rendering (j : BufferId) : ((b.set i .free).get j).rendering?.isSome = (b.get j).rendering?.isSome := by
    grind [Buffers.get_set, Buffer.rendering?]
  have others (j : BufferId) (none : (b.get j).held?.isSome = false) : ((b.set i .free).get j).held?.isSome = false := by
    grind [Buffers.get_set, Buffer.held?]
  exact
    { oneExposing := by grind [Buffers.get_set, h.oneExposing, Buffer.exposing?]
      oneRendering := by simpa only [rendering] using h.oneRendering
      oneHeld := by grind [Buffers.get_set, h.oneHeld, Buffer.held?]
      fits := by grind [Buffers.get_set, h.fits]
      work := by
        have work := h.work
        cases g with
        | idle =>
          refine (Buffers.anyRendering_eq_false_iff _).mpr fun j => ?_
          rw [rendering]
          exact (Buffers.anyRendering_eq_false_iff b).mp work j
        | render w => exact ⟨(rendering w.buffer).trans work.1, work.2⟩
        | trial w | trialWait w e => cases noTrial
      nodup := h.nodup
      queued := by grind [Buffers.get_set, h.queued, Buffer.ready?]
      marked := fun marked => ⟨(h.marked marked).1, fun j => others j ((h.marked marked).2 j)⟩
      holding := by
        intro j r p exposing hold k
        exact others k (h.holding j r p (by grind [Buffers.get_set]) hold k) }

/-! ### Several buffers at once -/

/-- The exposures in flight are abandoned (R38). -/
theorem abandon (h : BuffersStand op b order mark g) :
    BuffersStand op (b.map Buffer.abandonExposure) order mark g := by
  have rendering (v : Buffer) : v.abandonExposure.rendering?.isSome = v.rendering?.isSome := by cases v <;> rfl
  have held (v : Buffer) : v.abandonExposure.held?.isSome = v.held?.isSome := by cases v <;> rfl
  have ready (v : Buffer) : v.abandonExposure.ready?.isSome = v.ready?.isSome := by cases v <;> rfl
  have dark (v : Buffer) : v.abandonExposure.exposing?.isSome = false := by cases v <;> rfl
  exact
    { oneExposing := by simp [dark]
      oneRendering := by simpa only [Buffers.get_map, rendering] using h.oneRendering
      oneHeld := by simpa only [Buffers.get_map, held] using h.oneHeld
      fits := fun i => by
        have fit := h.fits i
        rw [Buffers.get_map]
        cases v : b.get i with
        | exposing r p => trivial
        | free | ready | rendering | held => rwa [v] at fit
      work := Geo.fitsBuffers_congr (by simp [rendering]) (by simp [held]) h.work
      nodup := h.nodup
      queued := by simpa only [Buffers.get_map, ready] using h.queued
      marked := by simpa only [Buffers.get_map, held] using h.marked
      holding := fun i r p exposing => by
        have none := dark (b.get i)
        rw [Buffers.get_map] at exposing
        rw [exposing] at none
        cases none }

/-- The READY frames are discarded (R38). -/
theorem discard (h : BuffersStand op b order mark g) : BuffersStand op (b.map Buffer.discardReady) [] mark g := by
  have rendering (v : Buffer) : v.discardReady.rendering?.isSome = v.rendering?.isSome := by cases v <;> rfl
  have held (v : Buffer) : v.discardReady.held?.isSome = v.held?.isSome := by cases v <;> rfl
  have exposing (v : Buffer) : v.discardReady.exposing? = v.exposing? := by cases v <;> rfl
  have noneReady (v : Buffer) : v.discardReady.ready?.isSome = false := by cases v <;> rfl
  exact
    { oneExposing := by simpa only [Buffers.get_map, exposing] using h.oneExposing
      oneRendering := by simpa only [Buffers.get_map, rendering] using h.oneRendering
      oneHeld := by simpa only [Buffers.get_map, held] using h.oneHeld
      fits := fun i => by
        have fit := h.fits i
        rw [Buffers.get_map]
        cases v : b.get i with
        | ready f => trivial
        | free | exposing | rendering | held => rwa [v] at fit
      work := Geo.fitsBuffers_congr (by simp [rendering]) (by simp [held]) h.work
      nodup := List.nodup_nil
      queued := by simp [noneReady]
      marked := by simpa only [Buffers.get_map, held] using h.marked
      holding := by
        simp only [← Buffer.exposing?_eq_some_iff, Buffers.get_map, exposing, held]
        simpa only [Buffer.exposing?_eq_some_iff] using h.holding }

/-! ### The operating state changes -/

/-- With no frame of an exposure or of the stream in a buffer, every operating state fits; a trial asks for its own, and a
hold mark for the stream's. -/
theorem changeState (h : BuffersStand op b order mark g) (op' : OpState)
    (dark : ∀ i, (b.get i).exposing?.isSome = false) (noneReady : ∀ i, (b.get i).ready?.isSome = false)
    (still : ∀ i, (b.get i).rendering?.isSome = false)
    (trial : g.inTrial = true → op' = .idle ∨ op' = .calibrating) (unmarked : mark = false) :
    BuffersStand op' b order mark g where
  oneExposing := h.oneExposing
  oneRendering := h.oneRendering
  oneHeld := h.oneHeld
  fits i := by
    have rest : b.get i = .free ∨ ∃ f, b.get i = .held f := by
      have notExposing := dark i
      have notReady := noneReady i
      have notRendering := still i
      cases v : b.get i <;> simp_all [Buffer.exposing?, Buffer.ready?, Buffer.rendering?]
    rcases rest with free | ⟨f, held⟩
    · rw [free]; trivial
    · rw [held]; trivial
  work := by
    have work := h.work
    cases g with
    | idle => exact work
    | render w => exact work
    | trial w | trialWait w e =>
      obtain ⟨held, noneRendering, row, -⟩ := work
      exact ⟨held, noneRendering, row, trial rfl⟩
  nodup := h.nodup
  queued := h.queued
  marked marked := by rw [unmarked] at marked; cases marked
  holding := h.holding

/-- STOP: what the stream has in its buffers fits STOPPING as it fits STREAMING, but for READY frames (R38, R39). -/
theorem stop (h : BuffersStand .streaming b [] mark g) : BuffersStand .stopping b [] mark g where
  oneExposing := h.oneExposing
  oneRendering := h.oneRendering
  oneHeld := h.oneHeld
  fits i := by
    have fit := h.fits i
    have notReady := h.queued i
    cases v : b.get i with
    | free | held => trivial
    | rendering f => exact .inr rfl
    | ready f => simp [v, Buffer.ready?] at notReady
    | exposing r p => cases kind : r.kind <;> simp_all [Buffer.fitsState]
  work := by
    have work := h.work
    cases g with
    | idle => exact work
    | render w => exact work
    | trial w | trialWait w e => simp [Geo.fitsBuffers] at work
  nodup := h.nodup
  queued := h.queued
  marked marked := ⟨.inr rfl, (h.marked marked).2⟩
  holding := h.holding

end BuffersStand

/-! ## What an operation keeps of the buffers -/

/-- An operation that keeps the buffers in order. A clause not given is that of an operation that leaves the operating
state, the buffers, their order, the hold mark and GEO as they are. -/
structure KeepsOrder (s t : State) : Prop where
  order : Ordered s → Ordered t := by exact fun h => ⟨h.stands, h.noneWaits⟩

theorem SameCapture.keepsOrder {s t : State} (h : SameCapture s t) : KeepsOrder s t where
  order := fun ⟨stands, waits⟩ =>
    ⟨by rw [Stands, h.fsq, h.geo]; exact stands, by rw [NoneWaits, h.fsq, h.geo]; exact waits⟩

theorem Ordered.of_stands {s : State} (h : Stands s) (other : s.fsq.opState ≠ .streaming) : Ordered s :=
  ⟨h, fun _ => h.order_nil other⟩

namespace KeepsOrder

theorem refl (s : State) : KeepsOrder s s := {}

theorem trans {s t u : State} (h : KeepsOrder s t) (h' : KeepsOrder t u) : KeepsOrder s u := ⟨h'.order ∘ h.order⟩

/-- An operation that leaves the order of the READY buffers and GEO, and the buffers standing. -/
theorem of_stands {s t : State} (h : Stands s → Stands t) (order : t.fsq.readyOrder = s.fsq.readyOrder := by rfl)
    (geo : t.geo = s.geo := by rfl) : KeepsOrder s t where
  order := fun ⟨stands, waits⟩ => ⟨h stands, by rw [NoneWaits, order, geo]; exact waits⟩

end KeepsOrder

/-! ### Changes of the operating state (R34, R39) -/

theorem stands_setOpState {op : OpState} {s : State} :
    Stands (setOpState op s) ↔ BuffersStand op s.fsq.buffers s.fsq.readyOrder s.fsq.holdMark s.geo := by
  rw [setOpState_frame]

theorem ordered_setOpState {op : OpState} {s : State}
    (h : BuffersStand op s.fsq.buffers s.fsq.readyOrder s.fsq.holdMark s.geo) (waits : NoneWaits s) :
    Ordered (setOpState op s) := by
  refine ⟨stands_setOpState.mpr h, ?_⟩
  rw [setOpState_frame]
  exact waits

theorem KeepsOrder.stopTest (s : State) : KeepsOrder s (stopTest s) where
  order := by
    rintro ⟨stands, waits⟩
    by_cases ends : s.fsq.opState = .stopping ∧ s.fsq.buffers.anyExposing = false ∧ s.fsq.buffers.anyRendering = false
    · obtain ⟨stopping, dark, still⟩ := ends
      rw [stopTest_ends stopping dark still]
      have work := stands.work
      have noTrial : s.geo.inTrial = false := by
        cases geo : s.geo with
        | idle | render w => rfl
        | trial w | trialWait w e => simp [geo, Geo.fitsBuffers, stopping] at work
      have unmarked : BuffersStand .stopping s.fsq.buffers s.fsq.readyOrder false s.geo :=
        { stands with
          fits := stopping ▸ stands.fits
          work := stopping ▸ stands.work
          marked := nofun }
      have idle := unmarked.changeState .idle ((Buffers.anyExposing_eq_false_iff _).mp dark)
        (stands.not_ready (by simp [stopping])) ((Buffers.anyRendering_eq_false_iff _).mp still)
        (by simp [noTrial]) rfl
      have ordered : Ordered (setOpState .idle { s with fsq := { s.fsq with holdMark := false } }) :=
        ordered_setOpState idle waits
      exact ⟨ordered.stands, ordered.noneWaits⟩
    · rw [stopTest_waits (by simp only [not_and_or, Bool.not_eq_false] at ends; exact ends)]
      exact ⟨stands, waits⟩

/-! ### Exposures (R42 to R47) -/

theorem KeepsOrder.startExposure (kind : FrameKind) {i : BufferId} {s : State} (free : s.fsq.buffers.get i = .free)
    (dark : ∀ j, (s.fsq.buffers.get j).exposing?.isSome = false)
    (fits : ∀ r p, r.kind = kind → (Buffer.exposing r p).fitsState s.fsq.opState)
    (holding : kind = .hold → ∀ j, (s.fsq.buffers.get j).held?.isSome = false) :
    KeepsOrder s (startExposure kind i s) := by
  rw [startExposure_eq]
  exact of_stands fun stands => stands.expose free dark _ _ (fits _ _ rfl) holding

/-- The kind of exposure a running timer starts fits the operating state (R42). -/
theorem expiryKind_fitsState {s : State} (running : s.fsq.opState = .calibrating ∨ s.fsq.opState = .streaming)
    (r : ExposureRecord) (p : ExposurePhase) (kind : r.kind = expiryKind s) :
    (Buffer.exposing r p).fitsState s.fsq.opState := by
  rw [expiryKind_eq] at kind
  unfold Buffer.fitsState
  rcases running with calibrating | streaming
  · simp [calibrating, kind]
  · rw [if_neg (by simp [streaming])] at kind
    split at kind <;> simp [kind, streaming]

theorem expiryKind_ne_hold (s : State) : expiryKind s ≠ .hold := by
  rw [expiryKind_eq]
  split_ifs <;> simp

/-- A running timer's expiry; it runs in CALIBRATING and STREAMING alone (R34, R41). -/
theorem KeepsOrder.timerExpiry {s : State}
    (timer : s.fsq.timer.isSome = true → s.fsq.opState = .calibrating ∨ s.fsq.opState = .streaming) :
    KeepsOrder s (timerExpiry s) := by
  unfold Machine.timerExpiry
  split
  case h_1 => exact refl s
  case h_2 interval loaded =>
    have running := timer (by rw [loaded]; rfl)
    refine .trans (t := { s with fsq := { s.fsq with timer := some s.fsq.sensor.period } }) {} ?_
    unfold expire
    split
    case isTrue => exact {}
    case isFalse dark =>
      rw [Bool.not_eq_true] at dark
      split
      case h_1 => exact {}
      case h_2 i free =>
        exact startExposure _ (Buffers.get_of_freeBuffer free) ((Buffers.anyExposing_eq_false_iff _).mp dark)
          (expiryKind_fitsState (s := { s with fsq := { s.fsq with timer := some s.fsq.sensor.period } }) running)
          fun hold => absurd hold (expiryKind_ne_hold _)

theorem KeepsOrder.exposureMidpoint (s : State) : KeepsOrder s (exposureMidpoint s) := by
  unfold Machine.exposureMidpoint
  split
  case h_1 inFlight => exact of_stands fun stands => stands.nextPhase (Buffers.get_of_exposure inFlight) _
  all_goals exact refl s

theorem KeepsOrder.exposureEnd (s : State) : KeepsOrder s (exposureEnd s) := by
  unfold Machine.exposureEnd
  split
  case h_1 inFlight => exact of_stands fun stands => stands.nextPhase (Buffers.get_of_exposure inFlight) _
  all_goals exact refl s

/-! ### Renders (R49, R50, R68) -/

theorem rowList_length_pos (takes : List (Int × Nat)) (b0 b1 : Nat) : 0 < (rowList takes b0 b1).length := by
  rw [rowList_eq]
  split
  case isTrue central =>
    obtain ⟨p, inList, -⟩ := central
    simpa using List.length_pos_of_mem inList
  case isFalse => simp

/-- The test of R49: after it no READY buffer waits while GEO is idle. -/
theorem ordered_tryRenderStart {s : State} (h : Stands s) : Ordered (tryRenderStart s) := by
  by_cases starts : s.fsq.opState = .streaming ∧ s.geo = .idle ∧ s.fsq.readyOrder ≠ []
  · obtain ⟨streaming, idle, waiting⟩ := starts
    obtain ⟨i, rest, order⟩ := List.exists_cons_of_ne_nil waiting
    obtain ⟨f, ready⟩ := (Buffer.ready?_isSome_iff _).mp ((h.queued i).mp (by simp [order]))
    rw [tryRenderStart_ready streaming idle order ready, startRender_eq]
    rw [Stands, idle] at h
    exact ⟨h.render streaming order ready rfl (rowList_length_pos ..), nofun⟩
  · have none : s.fsq.opState ≠ .streaming ∨ s.geo ≠ .idle ∨ s.fsq.readyOrder = [] := by tauto
    rw [tryRenderStart_none none]
    refine ⟨h, fun idle => ?_⟩
    rcases none with other | busy | empty
    · exact h.order_nil other
    · exact absurd idle busy
    · exact empty

theorem KeepsOrder.tryRenderStart (s : State) : KeepsOrder s (tryRenderStart s) :=
  ⟨fun h => ordered_tryRenderStart h.stands⟩

theorem stands_releaseBuffer {w : RenderWork} {f : Frame} {s : State}
    (h : BuffersStand s.fsq.opState s.fsq.buffers s.fsq.readyOrder s.fsq.holdMark (.render w))
    (rendering : s.fsq.buffers.get w.buffer = .rendering f) (idle : s.geo = .idle) :
    Stands (releaseBuffer w.buffer f s) := by
  have finished := h.finish rendering
  rw [← idle] at finished
  rw [releaseBuffer_eq]
  dsimp only
  cases mark : s.fsq.holdMark <;> rw [mark] at finished <;> exact finished

/-- A render completes with the work it has counted since it began. -/
theorem ordered_finishRender {w begun : RenderWork} {f : Frame} {s : State} (buffer : w.buffer = begun.buffer)
    (h : BuffersStand s.fsq.opState s.fsq.buffers s.fsq.readyOrder s.fsq.holdMark (.render begun))
    (rendering : s.fsq.buffers.get begun.buffer = .rendering f) : Ordered (finishRender w f s) := by
  unfold finishRender
  dsimp only
  rw [buffer]
  have released := stands_releaseBuffer (s := { s with
    ilc := (s.ilc.onStatistics w.context.frameNumber w.stats w.context.trims).1, geo := .idle }) h rendering rfl
  generalize releaseBuffer begun.buffer f _ = u at released ⊢
  have reported : Stands (reportPhaseErrors (raise
      (.summary (summaryOf w.context w.rows
        (s.ilc.onStatistics w.context.frameNumber w.stats w.context.trims).2 u)) u)) := by
    have same := SameCapture.reportPhaseErrors (raise
      (.summary (summaryOf w.context w.rows
        (s.ilc.onStatistics w.context.frameNumber w.stats w.context.trims).2 u)) u)
    rw [Stands, same.fsq, same.geo]
    exact released
  exact (KeepsOrder.stopTest _).order (ordered_tryRenderStart reported)

theorem KeepsOrder.rowCompletion (s : State) : KeepsOrder s (rowCompletion s) where
  order h := by
    unfold Machine.rowCompletion
    split
    case h_1 w geo =>
      split
      case h_2 => exact h
      case h_1 item f row rendering =>
        have stands := h.stands
        rw [Stands, geo] at stands
        unfold completeRow
        dsimp only
        generalize renderRow w.context f.samples item.position = pixels
        split
        case isTrue =>
          exact ordered_finishRender (begun := w) rfl (by rw [handOn_fsq]; exact stands) (by rw [handOn_fsq]; exact rendering)
        case isFalse more =>
          refine ⟨?_, nofun⟩
          rw [Stands, handOn_fsq]
          exact { stands with work := ⟨stands.work.1, not_le.mp more⟩ }
    all_goals exact h

/-! ### Trial renders (R89, R152, R153) -/

theorem BuffersStand.trial_state {op : OpState} {b : Buffers} {order : List BufferId} {mark : Bool} {w : TrialWork}
    (h : BuffersStand op b order mark (.trial w)) : op ≠ .streaming := by
  obtain ⟨-, -, -, rfl | rfl⟩ := h.work <;> decide

/-- A trial row is stored: the trial goes on, or GEO is idle. -/
theorem ordered_storeTrialRow {w : TrialWork} {s : State} (e : RowEntry)
    (h : BuffersStand s.fsq.opState s.fsq.buffers s.fsq.readyOrder s.fsq.holdMark (.trial w)) :
    Ordered (storeTrialRow w e s) := by
  obtain ⟨held, still, row, state⟩ := h.work
  unfold storeTrialRow
  dsimp only
  split
  case isTrue =>
    have idle : BuffersStand s.fsq.opState s.fsq.buffers s.fsq.readyOrder s.fsq.holdMark .idle := { h with work := still }
    exact .of_stands idle h.trial_state
  case isFalse more => exact ⟨{ h with work := ⟨held, still, not_le.mp more, state⟩ }, nofun⟩

theorem KeepsOrder.trialRowCompletion (s : State) : KeepsOrder s (trialRowCompletion s) where
  order h := by
    unfold Machine.trialRowCompletion offerTrialRow
    split
    case h_1 w geo =>
      have stands := h.stands
      rw [Stands, geo] at stands
      split
      case h_1 r f _ _ =>
        split
        · exact ordered_storeTrialRow _ stands
        · exact ⟨{ stands with work := stands.work }, nofun⟩
      case h_2 => exact h
    all_goals exact h

theorem KeepsOrder.wallReportSent (s : State) : KeepsOrder s (wallReportSent s) := by
  have resumed (u : State) (h : Ordered u) : Ordered (resumeTrial u) := by
    unfold resumeTrial
    split
    case h_1 w e geo =>
      have stands := h.stands
      rw [Stands, geo] at stands
      split
      · exact ordered_storeTrialRow e { stands with work := stands.work }
      · exact h
    all_goals exact h
  unfold Machine.wallReportSent
  split
  · exact .trans (t := fillChanged { freeDownlink s with rws := s.rws.wallSent }) {} ⟨resumed _⟩
  · exact refl s

/-! ### Out of the states without a stream (R34, R40) -/

namespace BuffersStand

variable {op : OpState} {b : Buffers} {order : List BufferId} {mark : Bool} {g : Geo}

theorem unmarked (h : BuffersStand op b order mark g) (notStreaming : op ≠ .streaming) (notStopping : op ≠ .stopping) :
    mark = false := by
  rw [← Bool.not_eq_true]
  intro marked
  rcases (h.marked marked).1 with streaming | stopping
  · exact notStreaming streaming
  · exact notStopping stopping

/-- Outside STREAMING and STOPPING, with no exposure in flight, the state can change. -/
theorem leaveRest (h : BuffersStand op b order mark g) (notStreaming : op ≠ .streaming) (notStopping : op ≠ .stopping)
    (dark : ∀ i, (b.get i).exposing?.isSome = false) (op' : OpState)
    (trial : g.inTrial = true → op' = .idle ∨ op' = .calibrating) : BuffersStand op' b order mark g :=
  h.changeState op' dark (h.not_ready notStreaming) (h.not_rendering notStreaming notStopping) trial
    (h.unmarked notStreaming notStopping)

theorem dark_of_unconfigured (h : BuffersStand .unconfigured b order mark g) (i : BufferId) :
    (b.get i).exposing?.isSome = false := by
  have fit := h.fits i
  cases v : b.get i with
  | exposing r p => cases kind : r.kind <;> simp [v, Buffer.fitsState, kind] at fit
  | free | ready | rendering | held => rfl

theorem dark_of_idle (h : BuffersStand .idle b order mark g) (noHold : b.holdInFlight = false) (i : BufferId) :
    (b.get i).exposing?.isSome = false := by
  have fit := h.fits i
  cases v : b.get i with
  | exposing r p =>
    have other := (Buffers.holdInFlight_false_iff h.oneExposing).mp noHold i r p v
    cases kind : r.kind <;> simp_all [Buffer.fitsState]
  | free | ready | rendering | held => rfl

theorem allFree (op : OpState) : BuffersStand op ⟨.free, .free, .free⟩ [] false .idle := by
  have free (i : BufferId) : Buffers.get ⟨.free, .free, .free⟩ i = .free := by cases i <;> rfl
  exact
    { oneExposing := by simp [free, Buffer.exposing?]
      oneRendering := by simp [free, Buffer.rendering?]
      oneHeld := by simp [free, Buffer.held?]
      fits := fun i => by rw [free]; trivial
      work := rfl
      nodup := List.nodup_nil
      queued := by simp [free, Buffer.ready?]
      marked := nofun
      holding := by simp [free] }

end BuffersStand

/-! ### Readouts (R47, R60) -/

theorem KeepsOrder.applyIdleCommits (s : State) : KeepsOrder s (applyIdleCommits s) :=
  (SameCapture.applyIdleCommits s).keepsOrder

theorem KeepsOrder.streamReadout {i : BufferId} {r : ExposureRecord} {p : ExposurePhase} {s : State}
    (inFlight : s.fsq.buffers.get i = .exposing r p) (f : Frame) : KeepsOrder s (streamReadout i f s) := by
  unfold Machine.streamReadout
  split
  case isTrue streaming => exact ⟨fun h => ordered_tryRenderStart (h.stands.enqueue inFlight f streaming)⟩
  case isFalse =>
    refine .trans (of_stands ?_) ((KeepsOrder.applyIdleCommits _).trans (stopTest _))
    exact fun stands => stands.endExposure inFlight

theorem KeepsOrder.calibrationReadout {i : BufferId} {r : ExposureRecord} {p : ExposurePhase} {s : State}
    (inFlight : s.fsq.buffers.get i = .exposing r p) (calibration : r.kind = .calibration) (rows : List (List Nat)) :
    KeepsOrder s (calibrationReadout r rows { s with fsq := { s.fsq with buffers := s.fsq.buffers.set i .free } }) := by
  have freed : KeepsOrder s { s with fsq := { s.fsq with buffers := s.fsq.buffers.set i .free } } :=
    of_stands fun stands => stands.endExposure inFlight
  unfold Machine.calibrationReadout
  dsimp only
  split
  case isTrue =>
    refine ⟨fun h => ordered_setOpState ?_ h.noneWaits⟩
    have fit := h.stands.fits i
    have calibrating : s.fsq.opState = .calibrating := by simpa [inFlight, Buffer.fitsState, calibration] using fit
    refine (h.stands.endExposure inFlight).leaveRest (by simp [calibrating]) (by simp [calibrating]) (fun j => ?_) .idle
      fun _ => .inl rfl
    have elsewhere := h.stands.dark_elsewhere inFlight j
    grind [Buffers.get_set, Buffer.exposing?]
  case isFalse => exact freed.trans (.trans (t := _) {} (KeepsOrder.applyIdleCommits _))

theorem KeepsOrder.readoutCompletion (raw : List (List Sample)) (s : State) : KeepsOrder s (readoutCompletion raw s) := by
  unfold Machine.readoutCompletion
  split
  case h_1 i r x phase =>
    have inFlight := Buffers.get_of_exposure phase
    dsimp only
    split
    · exact streamReadout inFlight _
    · refine .trans ?_ ((KeepsOrder.applyIdleCommits _).trans ((tryRenderStart _).trans (stopTest _)))
      exact of_stands fun stands => stands.endExposure inFlight
    · next calibration => exact calibrationReadout inFlight calibration _
    · next hold =>
      refine .trans ?_ (.trans (KeepsOrder.applyIdleCommits _) {})
      exact of_stands fun stands => stands.holdFrame inFlight hold _
  all_goals exact refl s

/-! ### Commands (R35, R37, R38, R40, R51 to R53, R152) -/

namespace KeepsOrder

theorem cmdSensor (r : SensorFields) (s : State) : KeepsOrder s (cmdSensor r s).1 := by
  unfold Machine.cmdSensor
  split
  · exact refl s
  · split
    · exact refl s
    · dsimp only
      split
      · exact refl s
      · split
        · exact refl s
        · dsimp only
          split
          case isFalse => exact {}
          case isTrue unconfigured =>
            refine ⟨fun h => ordered_setOpState ?_ h.noneWaits⟩
            have stands := h.stands
            rw [Stands, unconfigured] at stands
            exact stands.leaveRest nofun nofun stands.dark_of_unconfigured .idle fun _ => .inl rfl

theorem cmdCalibrate (s : State) : KeepsOrder s (cmdCalibrate s).1 := by
  unfold Machine.cmdCalibrate
  split
  · exact refl s
  · split
    · exact refl s
    · next idle noHold =>
      rw [not_not] at idle
      dsimp only
      refine ⟨fun h => ordered_setOpState ?_ h.noneWaits⟩
      have stands := h.stands
      rw [Stands, idle] at stands
      exact stands.leaveRest nofun nofun (stands.dark_of_idle (Bool.not_eq_true _ ▸ noHold)) .calibrating fun _ => .inr rfl

theorem cmdStart (s : State) : KeepsOrder s (cmdStart s).1 := by
  unfold Machine.cmdStart
  split_ifs with idle strip profile calibrated busy
  case neg =>
    rw [not_not] at idle
    simp only [Bool.or_eq_true, not_or, Bool.not_eq_true] at busy
    obtain ⟨noHold, noTrial⟩ := busy
    dsimp only
    refine ⟨fun h => ordered_setOpState ?_ h.noneWaits⟩
    have stands := h.stands
    rw [Stands, idle] at stands
    exact stands.leaveRest nofun nofun (stands.dark_of_idle noHold) .streaming fun trial => by
      rw [noTrial] at trial
      cases trial
  all_goals exact refl s

theorem stopCalibration {s : State} (calibrating : s.fsq.opState = .calibrating) : KeepsOrder s (stopCalibration s) where
  order h := by
    have stands := h.stands
    rw [Stands, calibrating] at stands
    rw [stopCalibration_eq]
    refine ordered_setOpState ?_ h.noneWaits
    refine stands.abandon.leaveRest nofun nofun (fun i => ?_) .idle fun _ => .inl rfl
    rw [Buffers.get_map]
    cases s.fsq.buffers.get i <;> rfl

theorem stopStream {s : State} (streaming : s.fsq.opState = .streaming) : KeepsOrder s (stopStream s) := by
  refine .trans ⟨fun h => ordered_setOpState ?_ fun _ => rfl⟩ (stopTest _)
  have stands := h.stands
  rw [Stands, streaming] at stands
  exact stands.discard.stop

theorem cmdStop (s : State) : KeepsOrder s (cmdStop s).1 := by
  unfold Machine.cmdStop
  split
  case h_3 calibrating => exact stopCalibration calibrating
  case h_4 streaming => exact stopStream streaming
  all_goals exact refl s

/-- HOLD marks the frame in hand, or starts an exposure; either way no buffer is HELD (R51, R52). -/
theorem cmdHold (s : State) : KeepsOrder s (cmdHold s).1 := by
  unfold Machine.cmdHold
  dsimp only
  split
  case h_4 streaming =>
    split
    case isTrue => exact refl s
    case isFalse busy =>
      simp only [Bool.or_eq_true, not_or, Bool.not_eq_true] at busy
      obtain ⟨⟨notHeld, -⟩, -⟩ := busy
      exact of_stands fun stands =>
        { stands with marked := fun _ => ⟨.inl streaming, (Buffers.anyHeld_eq_false_iff _).mp notHeld⟩ }
  case h_5 idle =>
    split
    case isTrue => exact refl s
    case isFalse busy =>
      simp only [Bool.or_eq_true, not_or, Bool.not_eq_true] at busy
      obtain ⟨⟨notHeld, -⟩, noHold⟩ := busy
      split
      case h_2 => exact refl s
      case h_1 i free =>
        refine ⟨fun h => (startExposure .hold (Buffers.get_of_freeBuffer free) ?_ ?_ ?_).order h⟩
        · have stands := h.stands
          rw [Stands, idle] at stands
          exact stands.dark_of_idle noHold
        · intro r p hold
          simp [Buffer.fitsState, hold, idle]
        · exact fun _ => (Buffers.anyHeld_eq_false_iff _).mp notHeld
  all_goals exact refl s

theorem cmdRelease (s : State) : KeepsOrder s (cmdRelease s).1 := by
  unfold Machine.cmdRelease
  split
  case isTrue => exact refl s
  case isFalse =>
    split
    case h_1 i f held =>
      split
      case isTrue => exact refl s
      case isFalse noTrial =>
        exact of_stands fun stands => stands.release (Buffers.get_of_heldFrame held) (Bool.not_eq_true _ ▸ noTrial)
    case h_2 =>
      split_ifs
      · exact of_stands fun stands => { stands with marked := nofun }
      · exact refl s
      · exact refl s

/-- A trial has a row: the STRIP record's band is in its range (R6). -/
theorem cmdRerender {s : State} (strip : StripWithinRange s) : KeepsOrder s (cmdRerender s).1 := by
  unfold Machine.cmdRerender
  split
  case isTrue => exact refl s
  case isFalse idle =>
    rw [not_not] at idle
    split
    case isTrue => exact refl s
    case isFalse =>
      split
      case isTrue => exact refl s
      case isFalse =>
        split
        case h_1 => exact refl s
        case h_2 i f held =>
          split
          case isTrue => exact refl s
          case isFalse =>
            refine ⟨fun h => ⟨{ h.stands with work := ⟨?_, ?_, ?_, .inl idle⟩ }, nofun⟩⟩
            · rw [Buffers.get_of_heldFrame held]
              rfl
            · exact (Buffers.anyRendering_eq_false_iff _).mpr
                (h.stands.not_rendering (by simp [idle]) (by simp [idle]))
            · have band : s.strip.record.b0 ≤ s.strip.record.b1 := strip.1
              simp only [trialRows, List.length_map, List.length_range]
              omega

theorem resetStream (s : State) : KeepsOrder s (resetStream s) where
  order _ := ordered_setOpState (.allFree _) fun _ => rfl

theorem fullReset (s : State) : KeepsOrder s (fullReset s) where
  order _ := ⟨.allFree _, fun _ => rfl⟩

theorem runCommand (tag : Byte) (c : Command) {s : State} (strip : StripWithinRange s) :
    KeepsOrder s (runCommand tag c s) := by
  have answered {r : State × Answer} (h : KeepsOrder s r.1) : KeepsOrder s (answer tag r) := h.trans {}
  cases reaches : reachesCapture c with
  | false => exact (SameCapture.runCommand tag c s reaches).keepsOrder
  | true =>
    cases c with
    | sensor r => exact answered (cmdSensor r s)
    | light r => exact answered (by unfold cmdLight; split <;> exact {})
    | dark n => exact answered (by unfold cmdDark; split <;> exact {})
    | calibrate => exact answered (cmdCalibrate s)
    | start => exact answered (cmdStart s)
    | stop => exact answered (cmdStop s)
    | relight => exact answered (by unfold cmdRelight; split <;> exact {})
    | hold => exact answered (cmdHold s)
    | release => exact answered (cmdRelease s)
    | rerender => exact answered (cmdRerender strip)
    | resetStream => exact answered (resetStream s)
    | resetFull => exact answered (fullReset s)
    | _ => cases reaches

end KeepsOrder

/-! ### Every step -/

/-- What a step keeps together: the STRIP record in its range, the operating state coherent, and, of a part where both
hold, the buffers in order. -/
structure KeepsCapture (s t : State) : Prop where
  ranges : KeepsRanges s t
  standing : KeepsStanding s t
  buffers : StripWithinRange s → StateCoherent s → KeepsOrder s t

/-- A part whose buffers are in order and whose state is coherent. -/
theorem Ordered.coherent {s : State} (h : Ordered s) (state : StateCoherent s) : Coherent s :=
  coherent_of_buffers state ((buffersCoherent_iff s).mpr h)

theorem KeepsCapture.trans {s t u : State} (h : KeepsCapture s t) (h' : KeepsCapture t u) : KeepsCapture s u where
  ranges := h.ranges.trans h'.ranges
  standing := ⟨h'.standing.store ∘ h.standing.store, h'.standing.coherent ∘ h.standing.coherent⟩
  buffers strip state := by
    refine ⟨fun before => ?_⟩
    have between := (h.buffers strip state).order before
    have ⟨coherent, _⟩ := h.standing.coherent (before.coherent state)
    exact (h'.buffers (h.ranges.strip strip) coherent).order between

theorem keepsCapture_keptByParts : KeptByParts KeepsCapture := by
  have R := keepsRanges_keptByParts
  have C := keepsStanding_keptByParts
  exact
    { refl := fun s => ⟨.refl s, C.refl s, fun _ _ => .refl s⟩
      trans := .trans
      link := fun s lnk => ⟨R.link s lnk, C.link s lnk, fun _ _ => {}⟩
      pending := fun s steps => ⟨R.pending s steps, C.pending s steps, fun _ _ => {}⟩
      tick := fun s => ⟨R.tick s, C.tick s, fun _ _ => {}⟩
      settle := fun s => ⟨R.settle s, C.settle s, fun _ _ => (SameCapture.settle s).keepsOrder⟩
      runCommand := fun tag c s => ⟨R.runCommand tag c s, C.runCommand tag c s, fun strip _ => .runCommand tag c strip⟩
      fullReset := fun s => ⟨R.fullReset s, C.fullReset s, fun _ _ => .fullReset s⟩
      timerExpiry := fun s => ⟨R.timerExpiry s, C.timerExpiry s, fun _ ⟨timer, _⟩ => .timerExpiry timer.mp⟩
      exposureMidpoint := fun s => ⟨R.exposureMidpoint s, C.exposureMidpoint s, fun _ _ => .exposureMidpoint s⟩
      exposureEnd := fun s => ⟨R.exposureEnd s, C.exposureEnd s, fun _ _ => .exposureEnd s⟩
      readoutCompletion := fun raw s =>
        ⟨R.readoutCompletion raw s, C.readoutCompletion raw s, fun _ _ => .readoutCompletion raw s⟩
      rowCompletion := fun s => ⟨R.rowCompletion s, C.rowCompletion s, fun _ _ => .rowCompletion s⟩
      trialRowCompletion := fun s => ⟨R.trialRowCompletion s, C.trialRowCompletion s, fun _ _ => .trialRowCompletion s⟩
      wallReportSent := fun s => ⟨R.wallReportSent s, C.wallReportSent s, fun _ _ => .wallReportSent s⟩
      markerReportSent := fun s =>
        ⟨R.markerReportSent s, C.markerReportSent s, fun _ _ => (SameCapture.markerReportSent s).keepsOrder⟩
      previewTileSent := fun s =>
        ⟨R.previewTileSent s, C.previewTileSent s, fun _ _ => (SameCapture.previewTileSent s).keepsOrder⟩
      transition := fun s a b => ⟨R.transition s a b, C.transition s a b, fun _ _ => {}⟩
      closeWindow := fun s => ⟨R.closeWindow s, C.closeWindow s, fun _ _ => {}⟩
      receiveLine := fun chars s => ⟨R.receiveLine chars s, C.receiveLine chars s, fun _ _ => {}⟩
      gatherLine := fun chars s => ⟨R.gatherLine chars s, C.gatherLine chars s, fun _ _ => {}⟩
      lineSent := fun s => ⟨R.lineSent s, C.lineSent s, fun _ _ => {}⟩
      advisoryRepeat := fun s => ⟨R.advisoryRepeat s, C.advisoryRepeat s, fun _ _ => {}⟩ }

/-- Settles O57: coherent buffers are buffers in order, and every part of a step keeps them so. -/
theorem everyStepKeepsTheBuffersCoherent : Obligations.EveryStepKeepsTheBuffersCoherent := by
  intro s t strip state before h
  have kept := (keepsCapture_keptByParts.step s t h).buffers strip state
  exact (buffersCoherent_iff t).mpr (kept.order ((buffersCoherent_iff s).mp before))

end Sys2Proof.Machine

namespace Sys2Proof.Machine

-- With it on, the many small proofs start more threads than the check's limits allow.
set_option Elab.async false

/-! ## The commits of one moment, and the parked SYNC (R167, R169) -/

/-- What the application point of a table's armed commit reports, when one is armed (R167). -/
def commitEvents (i : TableId) (p : CommitPoint) (t : TableState) : List ControlItem :=
  match t.armed with
  | none => []
  | some e => [.event (if e = t.gen then .commitApplied i (nextGen t.gen) p else .commitCancelled i e t.gen)]

/-- A table's armed commit met, and no SYNC answered yet: the table, and what is raised. -/
def State.meetCommit (s : State) (i : TableId) (p : CommitPoint) : State :=
  (commitEvents i p (s.tbu.get i)).foldl (fun s item => raise item s) { s with tbu := s.tbu.set i (s.tbu.get i).met }

theorem TableState.met_of_not_armed {t : TableState} (h : t.armed = none) : t.met = t := by
  unfold TableState.met
  rw [h]

@[simp] theorem Tbu.set_get_same (t : Tbu) (i : TableId) : t.set i (t.get i) = t := by cases i <;> rfl

theorem State.meetCommit_of_not_armed {s : State} {i : TableId} (h : (s.tbu.get i).armed = none) (p : CommitPoint) :
    s.meetCommit i p = s := by
  unfold State.meetCommit commitEvents
  simp [h, TableState.met_of_not_armed h]

/-- An application is its commit met, and then the parked SYNC looked at (R167, R169). -/
theorem applyCommit_of_armed {s : State} {i : TableId} {e : Nat} (h : (s.tbu.get i).armed = some e) (p : CommitPoint) :
    applyCommit i p s = answerSync (s.meetCommit i p) := by
  unfold applyCommit State.meetCommit commitEvents TableState.met
  simp only [h]
  split <;> rfl

theorem applyCommit_of_not_armed {s : State} {i : TableId} (h : (s.tbu.get i).armed = none) (p : CommitPoint) :
    applyCommit i p s = s := by
  unfold applyCommit
  simp only [h]

theorem Tbu.anyArmed_of_get {t : Tbu} {i : TableId} {e : Nat} (h : (t.get i).armed = some e) : t.anyArmed = true := by
  cases i <;> simp_all [Tbu.anyArmed, Tbu.get]

/-- No SYNC is answered while a commit is armed. -/
theorem answerSync_of_armed {s : State} (h : s.tbu.anyArmed = true) : answerSync s = s := by
  unfold answerSync
  rw [h]
  split <;> rfl

theorem answerSync_get (s : State) (i : TableId) : (answerSync s).tbu.get i = s.tbu.get i := by
  rw [answerSync_tables]
  cases i <;> rfl

/-- One more application of the same moment: the SYNC is answered at the end of them all, if any commit was armed. -/
theorem applyCommit_next (i : TableId) (p : CommitPoint) (s : State) (any : Bool) :
    applyCommit i p (if any then answerSync s else s) =
      if any || (s.tbu.get i).armed.isSome then answerSync (s.meetCommit i p) else s.meetCommit i p := by
  cases armed : (s.tbu.get i).armed with
  | some e =>
    have waits : answerSync s = s := answerSync_of_armed (Tbu.anyArmed_of_get armed)
    simp [waits, applyCommit_of_armed armed]
  | none =>
    rw [State.meetCommit_of_not_armed armed, applyCommit_of_not_armed]
    · simp
    · cases any with
      | true => rw [if_pos rfl, answerSync_get]; exact armed
      | false => exact armed

theorem foldl_raise_tbu (items : List ControlItem) (s : State) :
    (items.foldl (fun s item => raise item s) s).tbu = s.tbu := by
  induction items generalizing s with
  | nil => rfl
  | cons item rest ih => exact ih _

theorem State.meetCommit_get_other (s : State) {i j : TableId} (p : CommitPoint) (h : j ≠ i) :
    (s.meetCommit i p).tbu.get j = s.tbu.get j := by
  rw [State.meetCommit, foldl_raise_tbu, Tbu.get_set_other _ _ _ _ h]

/-- The three commits met in the order of the tables. -/
def State.meetCommits (s : State) : State :=
  ((s.meetCommit .profile .atOnce).meetCommit .shade .atOnce).meetCommit .column .atOnce

/-- Outside STREAMING with no exposure in flight the three commits are met, and then a parked SYNC is answered if one of
them was armed (R165, R166, R169). -/
theorem applyIdleCommits_dark {s : State} (op : s.fsq.opState ≠ .streaming) (dark : s.fsq.buffers.anyExposing = false) :
    applyIdleCommits s = if s.tbu.anyArmed then answerSync s.meetCommits else s.meetCommits := by
  have profile := applyCommit_next .profile .atOnce s false
  have shade := applyCommit_next .shade .atOnce (s.meetCommit .profile .atOnce) (s.tbu.get .profile).armed.isSome
  have column := applyCommit_next .column .atOnce ((s.meetCommit .profile .atOnce).meetCommit .shade .atOnce)
    ((s.tbu.get .profile).armed.isSome || (s.tbu.get .shade).armed.isSome)
  rw [State.meetCommit_get_other _ _ (by decide)] at shade column
  rw [State.meetCommit_get_other _ _ (by decide)] at column
  rw [applyIdleCommits_eq op, if_neg (by simp [dark])]
  simp only [Bool.false_or, Bool.false_eq_true, if_false] at profile
  rw [profile, shade, column]
  rfl

theorem commitEvents_length_le (i : TableId) (p : CommitPoint) (t : TableState) : (commitEvents i p t).length ≤ 1 := by
  unfold commitEvents
  split <;> simp

/-- A commit met while the control queue has room: its event joins behind the others. -/
theorem State.meetCommit_eq (s : State) (i : TableId) (p : CommitPoint)
    (room : s.lnk.controlQueue.length < Config.controlSlots) :
    s.meetCommit i p =
      { s with
        tbu := s.tbu.set i (s.tbu.get i).met
        lnk := { s.lnk with controlQueue := s.lnk.controlQueue ++ commitEvents i p (s.tbu.get i) } } := by
  cases armed : (s.tbu.get i).armed with
  | none =>
    rw [State.meetCommit_of_not_armed armed, TableState.met_of_not_armed armed]
    simp [commitEvents, armed]
  | some e =>
    simp only [State.meetCommit, commitEvents, armed, List.foldl_cons, List.foldl_nil, raise]
    rw [Lnk.raise_room _ _ room]

/-- The events of the commits met outside STREAMING, in the order of the tables (R165, R166, log 18). -/
def Tbu.metEvents (t : Tbu) : List ControlItem :=
  commitEvents .profile .atOnce t.profile
    ++ (commitEvents .shade .atOnce t.shade ++ commitEvents .column .atOnce t.column)

theorem State.meetCommits_eq (s : State) (room : s.lnk.controlQueue.length + 3 ≤ Config.controlSlots) :
    s.meetCommits =
      { s with
        tbu := { s.tbu with profile := s.tbu.profile.met, shade := s.tbu.shade.met, column := s.tbu.column.met }
        lnk := { s.lnk with controlQueue := s.lnk.controlQueue ++ s.tbu.metEvents } } := by
  have profile := commitEvents_length_le .profile .atOnce s.tbu.profile
  have shade := commitEvents_length_le .shade .atOnce s.tbu.shade
  unfold State.meetCommits
  rw [s.meetCommit_eq .profile .atOnce (by omega)]
  rw [State.meetCommit_eq _ .shade .atOnce (by simp [Tbu.get]; omega)]
  rw [State.meetCommit_eq _ .column .atOnce (by simp [Tbu.get, Tbu.set]; omega)]
  simp [Tbu.get, Tbu.set, Tbu.metEvents]

/-- The reply a parked SYNC gets once no commit is armed (R169). -/
def Tbu.syncReply (t : Tbu) : List Reply :=
  match t.parked with
  | some tag => [⟨tag, .ok, t.generations, false⟩]
  | none => []

theorem answerSync_of_not_armed {s : State} (h : s.tbu.anyArmed = false) :
    answerSync s =
      { s with
        tbu := { s.tbu with parked := none }
        lnk := { s.lnk with replies := s.lnk.replies ++ s.tbu.syncReply } } := by
  unfold answerSync Tbu.syncReply
  rw [h]
  cases parked : s.tbu.parked with
  | none => simp [← parked]
  | some tag => rfl

/-- Outside STREAMING with no exposure in flight and room in the control queue. -/
theorem applyIdleCommits_room {s : State} (op : s.fsq.opState ≠ .streaming) (dark : s.fsq.buffers.anyExposing = false)
    (room : s.lnk.controlQueue.length + 3 ≤ Config.controlSlots) :
    applyIdleCommits s =
      let met : Tbu := { s.tbu with
        profile := s.tbu.profile.met, shade := s.tbu.shade.met, column := s.tbu.column.met }
      { s with
        tbu := { met with parked := if s.tbu.anyArmed then none else s.tbu.parked }
        lnk := { s.lnk with
          controlQueue := s.lnk.controlQueue ++ s.tbu.metEvents
          replies := s.lnk.replies ++ if s.tbu.anyArmed then met.syncReply else [] } } := by
  rw [applyIdleCommits_dark op dark, s.meetCommits_eq room]
  cases s.tbu.anyArmed with
  | true =>
    rw [if_pos rfl, answerSync_of_not_armed (by simp [Tbu.anyArmed])]
    rfl
  | false => simp

/-! ## RESET STREAM (R182) -/

theorem keepDelivered_lnk (s : State) (lnk : Lnk) : keepDelivered { s with lnk := lnk } = { keepDelivered s with lnk := lnk } := by
  unfold keepDelivered
  dsimp only
  split
  · split <;> rfl
  all_goals rfl

/-- RESET STREAM's first part: the control queue is emptied, and a running calibration is aborted (R182, R62). -/
theorem resetCalibration_emptied (s : State) :
    resetCalibration { s with lnk := { s.lnk with controlQueue := [] } } =
      { s with
        blk := if s.fsq.opState = .calibrating then (keepDelivered s).blk else s.blk
        freeIx := if s.fsq.opState = .calibrating then (keepDelivered s).freeIx else s.freeIx
        lnk := { s.lnk with
          controlQueue :=
            if s.fsq.opState = .calibrating then [.event (.calAborted .reset s.blk.calFrames)] else [] } } := by
  unfold resetCalibration
  dsimp only
  rw [keepDelivered_lnk]
  split
  case isFalse => rfl
  case isTrue =>
    obtain ⟨state, blk⟩ := keepDelivered_frame s
    have frames : (keepDelivered s).blk.calFrames = s.blk.calFrames := by rw [blk]
    dsimp only
    rw [frames, state]
    rfl

/-- Settles O24: the calibration aborted, the blocks reset, and the change of state with the commits it meets. -/
theorem resetStreamActsBlockByBlock : Obligations.ResetStreamActsBlockByBlock := by
  intro tag s ready
  dsimp only
  rw [exec_resetStream_at_once tag s ready]
  refine congrArg (fun t => Host.Outcome.next (replied tag .ok [] t)) ?_
  unfold resetStream
  dsimp only
  rw [resetCalibration_emptied]
  have op : (if s.fsq.sensorHeld then OpState.idle else .unconfigured) ≠ .streaming := by split <;> simp
  unfold setOpState
  dsimp only
  rw [applyIdleCommits_room]
  · rw [State.mk.injEq]
    refine ⟨rfl, rfl, ?_, rfl, rfl, rfl, if_neg op, rfl, rfl, ?_, ?_, rfl, rfl⟩
    · rw [reformLevel_odo, Odo.reformLevel_eq, Odo.formedLevel_other _ op,
        decide_eq_decide.mpr (ne_comm (a := Advisory.hold))]
      rfl
    · rfl
    · rw [Lnk.mk.injEq]
      refine ⟨rfl, rfl, ?_, ?_, rfl, rfl, rfl, rfl, rfl, rfl, rfl, rfl, rfl⟩
      · unfold Tbu.syncReply
        dsimp only [reformLevel_tbu]
        cases s.tbu.parked with
        | none => exact congrArg (s.lnk.replies ++ ·) (ite_self [])
        | some tag => rfl
      · rw [List.append_assoc, List.append_assoc]
        rfl
  · exact op
  · rfl
  · dsimp only [reformLevel_lnk]
    split <;> simp [Config.controlSlots]

end Sys2Proof.Machine

namespace Sys2Proof.Machine

-- With it on, the many small proofs start more threads than the check's limits allow.
set_option Elab.async false

/-! ## Samples of a readout (R54, R57) -/

theorem padTo_getD {α : Type} (d e : α) (n : Nat) (l : List α) (i : Nat) (h : i < n) :
    (padTo d n l).getD i e = l.getD i d := by
  induction n generalizing l i with
  | zero => exact absurd h (Nat.not_lt_zero i)
  | succ n ih =>
    cases l with
    | nil =>
      cases i with
      | zero => rfl
      | succ i => simpa [padTo] using ih [] i (Nat.lt_of_succ_lt_succ h)
    | cons x l =>
      cases i with
      | zero => rfl
      | succ i => simpa [padTo] using ih l i (Nat.lt_of_succ_lt_succ h)

theorem getD_map_of_lt {α β : Type} (f : α → β) (l : List α) (i : Nat) (d : α) (e : β) (h : i < l.length) :
    (l.map f).getD i e = f (l.getD i d) := by
  simp [List.getD_eq_getElem?_getD, h]

theorem getD_zipWith_of_lt {α β γ : Type} (f : α → β → γ) (l : List α) (l' : List β) (i : Nat) (a : α) (b : β) (c : γ)
    (h : i < l.length) (h' : i < l'.length) : (List.zipWith f l l').getD i c = f (l.getD i a) (l'.getD i b) := by
  simp [List.getD_eq_getElem?_getD, h, h']

theorem getD_range_of_lt (n i d : Nat) (h : i < n) : (List.range n).getD i d = i := by
  simp [List.getD_eq_getElem?_getD, h]

/-- The raw samples are the whole window (R46). -/
theorem rawSamples_size (r : ExposureRecord) (raw : List (List Sample)) :
    (rawSamples r raw).length = r.height ∧ ∀ row ∈ rawSamples r raw, row.length = r.width := by
  unfold rawSamples
  cases r.source with
  | sensor =>
    refine ⟨by simp, fun row inRows => ?_⟩
    obtain ⟨listed, -, rfl⟩ := List.mem_map.mp inRows
    simp
  | pattern =>
    refine ⟨by simp, fun row inRows => ?_⟩
    obtain ⟨y, -, rfl⟩ := List.mem_map.mp inRows
    simp

theorem sampleAt_rawSamples_sensor {r : ExposureRecord} (sensor : r.source = .sensor) (raw : List (List Sample)) {x y : Nat}
    (hx : x < r.width) (hy : y < r.height) : sampleAt (rawSamples r raw) x y = ((raw.getD y []).getD x 0).toNat := by
  unfold rawSamples sampleAt
  rw [sensor]
  dsimp only
  rw [getD_map_of_lt _ _ y [] [] (by simpa using hy), getD_map_of_lt _ _ x 0 0 (by simpa using hx),
    padTo_getD _ _ _ _ x hx, padTo_getD _ _ _ _ y hy]

theorem sampleAt_rawSamples_pattern {r : ExposureRecord} (pattern : r.source = .pattern) (raw : List (List Sample))
    {x y : Nat} (hx : x < r.width) (hy : y < r.height) :
    sampleAt (rawSamples r raw) x y = (x + y + r.frameNumber) % 4094 := by
  unfold rawSamples sampleAt
  rw [pattern]
  dsimp only
  rw [getD_map_of_lt _ _ y 0 [] (by simpa using hy), getD_map_of_lt _ _ x 0 0 (by simpa using hx),
    getD_range_of_lt _ _ _ hx, getD_range_of_lt _ _ _ hy]
  rfl

/-- What is stored is the whole window, when COLUMN has an offset for each of its columns (R57). -/
theorem storedSamples_size {r : ExposureRecord} {column : List Nat} (drift : Int) {rows : List (List Nat)}
    (covers : r.width ≤ column.length) (height : rows.length = r.height) (width : ∀ row ∈ rows, row.length = r.width) :
    (storedSamples r column drift rows).length = r.height
      ∧ ∀ row ∈ storedSamples r column drift rows, row.length = r.width := by
  unfold storedSamples
  cases r.source with
  | pattern => exact ⟨height, width⟩
  | sensor =>
    refine ⟨by simpa using height, fun row inRows => ?_⟩
    obtain ⟨raw, inRaw, rfl⟩ := List.mem_map.mp inRows
    rw [List.length_zipWith, width raw inRaw, Nat.min_eq_right covers]

theorem sampleAt_storedSamples_sensor {r : ExposureRecord} (sensor : r.source = .sensor) {column : List Nat} (drift : Int)
    {rows : List (List Nat)} (covers : r.width ≤ column.length) (height : rows.length = r.height)
    (width : ∀ row ∈ rows, row.length = r.width) {x y : Nat} (hx : x < r.width) (hy : y < r.height) :
    sampleAt (storedSamples r column drift rows) x y = correctSample drift (column.getD x 0) (sampleAt rows x y) := by
  have inRows : rows.getD y [] ∈ rows := by
    rw [List.getD_eq_getElem rows [] (height ▸ hy)]
    exact List.getElem_mem _
  unfold storedSamples sampleAt
  rw [sensor]
  dsimp only
  rw [getD_map_of_lt _ _ y [] [] (height ▸ hy),
    getD_zipWith_of_lt _ _ _ x 0 0 0 (hx.trans_le covers) (by rw [width _ inRows]; exact hx)]

theorem clampInt_eq_max_min (v lo hi : Int) (h : lo ≤ hi) : clampInt v lo hi = max lo (min hi v) := by
  unfold clampInt
  split_ifs <;> omega

/-- A saturated sample is stored as it is, and no other is stored as 4095 (R57). -/
theorem correctSample_eq (drift : Int) (colofs r : Nat) :
    correctSample drift colofs r =
        (if r = 4095 then 4095 else (max 0 (min 4094 ((r : Int) - ((colofs : Int) + drift + 2) / 4))).toNat)
      ∧ (correctSample drift colofs r = 4095 ↔ r = 4095) := by
  unfold correctSample
  rw [clampInt_eq_max_min _ _ _ (by decide)]
  refine ⟨rfl, ?_⟩
  split_ifs <;> omega

/-! ## The measurement of a dark frame (R66, R67) -/

/-- The unsaturated places of a dark frame, each with its column's offset. -/
def unsaturatedPlaces (column : List Nat) (rows : List (List Nat)) : List (Nat × Nat) :=
  rows.flatMap fun row => (column.zip row).filter fun p => decide (p.2 < 4095)

theorem darkTerms_eq (column : List Nat) (rows : List (List Nat)) :
    rows.flatMap (darkTerms column) = (unsaturatedPlaces column rows).map fun p => 4 * (p.2 : Int) - (p.1 : Int) :=
  List.map_flatMap.symm

theorem Blk.measureDark_eq (b : Blk) (column : List Nat) (rows : List (List Nat)) :
    b.measureDark column rows =
      let dark := unsaturatedPlaces column rows
      let d := ((dark.map (fun p => 4 * (p.2 : Int) - p.1)).sum + ((dark.length / 2 : Nat) : Int)) / (dark.length : Int)
      if dark = [] then b
      else
        { b with
          lastDark := d
          darkMeasured := min (b.darkMeasured + 1) 65535
          drift := max (-1024) (min 1024 (b.drift + (d - b.drift + 4) / 8)) } := by
  unfold Blk.measureDark darkMeasure
  dsimp only
  rw [darkTerms_eq, List.length_map]
  simp only [List.length_eq_zero_iff]
  split_ifs
  · rfl
  · dsimp only
    rw [driftAfter, clampInt_eq_max_min _ _ _ (by decide)]
    rfl

/-! ## The sine and the pixel (R75 to R82) -/

/-- The quarter-wave symmetries, at the ends of the quarters too. -/
theorem sinOf_quarters (i : Nat) (h : i ≤ 1024) :
    sinOf i = sineEntry i ∧ sinOf (1024 + i) = sineEntry (1024 - i) ∧ sinOf (2048 + i) = -(sineEntry i : Int)
      ∧ (i < 1024 → sinOf (3072 + i) = -(sineEntry (1024 - i) : Int)) := by
  rcases h.lt_or_eq with inside | rfl
  · have first : i / 1024 = 0 ∧ i % 1024 = i := by omega
    have second : (1024 + i) / 1024 = 1 ∧ (1024 + i) % 1024 = i := by omega
    have third : (2048 + i) / 1024 = 2 ∧ (2048 + i) % 1024 = i := by omega
    have fourth : (3072 + i) / 1024 = 3 ∧ (3072 + i) % 1024 = i := by omega
    unfold sinOf
    refine ⟨?_, ?_, ?_, fun _ => ?_⟩
    · simp only [first]
    · simp only [second]
    · simp only [third]
    · simp only [fourth]
  · exact ⟨by decide +kernel, by decide +kernel, by decide +kernel, fun h => absurd h (by decide)⟩

theorem atDepth_le (depth w : Nat) (h : w ≤ 4095) : atDepth depth w ≤ 4095 ∧ (depth = 8 → atDepth depth w ≤ 255) := by
  unfold atDepth
  split_ifs <;> omega

/-- A pixel's value is the fill value or an output value, at the row's depth (R77, R82). -/
theorem renderPixel_value (k : RenderContext) (samples : List (List Nat)) (s c : Nat) :
    (renderPixel k samples s c).value = atDepth k.depth k.fill
      ∨ ∃ u t, (renderPixel k samples s c).value = atDepth k.depth (outputValue u t) := by
  unfold renderPixel
  dsimp only
  split
  · exact .inr ⟨_, _, rfl⟩
  · exact .inl rfl

theorem renderPixel_value_le (k : RenderContext) (samples : List (List Nat)) (s c : Nat) (fill : k.fill ≤ 4095) :
    (renderPixel k samples s c).value ≤ 4095 ∧ (k.depth = 8 → (renderPixel k samples s c).value ≤ 255) := by
  rcases renderPixel_value k samples s c with value | ⟨u, t, value⟩
  · rw [value]
    exact atDepth_le _ _ fill
  · rw [value]
    exact atDepth_le _ _ (Nat.min_le_right _ _)

/-- Settles O38: the samples from the sizes of a readout, then each stage from its own lemma. -/
theorem samplesAndPixelsFollowTheirStages : Obligations.SamplesAndPixelsFollowTheirStages := by
  refine ⟨fun r raw column drift covers => ?_, fun _ _ _ => rfl, Blk.measureDark_eq, sineEntry_rounds, sinOf_quarters,
    fun _ _ _ => rfl, fun k samples s c => ?_, fun _ _ _ => rfl, renderPixel_value_le⟩
  · obtain ⟨height, width⟩ := rawSamples_size r raw
    obtain ⟨storedHeight, storedWidth⟩ := storedSamples_size drift covers height width
    refine ⟨height, width, storedHeight, storedWidth, fun x y hx hy => ⟨fun pattern => ?_, fun sensor => ?_⟩⟩
    · refine ⟨sampleAt_rawSamples_pattern pattern raw hx hy, ?_⟩
      unfold storedSamples
      rw [pattern]
    · rw [sampleAt_storedSamples_sensor sensor drift covers height width hx hy]
      exact ⟨sampleAt_rawSamples_sensor sensor raw hx hy, correctSample_eq drift _ _⟩
  · dsimp only
    refine ⟨fun outside => ?_, fun inside => ?_⟩
    · unfold renderPixel
      exact if_neg fun inWindow => outside (of_decide_eq_true inWindow)
    · unfold renderPixel
      exact if_pos (decide_eq_true inside)

end Sys2Proof.Machine

namespace Sys2Proof.Machine

-- With it on, the many small proofs start more threads than the check's limits allow.
set_option Elab.async false

/-! ## The power-on state (R56, R142, R159, R188) -/

section PowerOn

variable (lineA lineB lineCut : Bool) (freeIx : Nat) (pending : List Instr)

/-- At power-on the advisory line is on the port already, and the downlink has nothing to send. -/
theorem settled_powerOn : Settled (State.powerOn lineA lineB lineCut freeIx pending) :=
  ⟨fun _ => ⟨rfl, rfl⟩, nofun⟩

theorem queuesWithinLimits_powerOn : QueuesWithinLimits (State.powerOn lineA lineB lineCut freeIx pending) :=
  ⟨Nat.zero_le _, Nat.zero_le _, fun waiting => absurd rfl waiting, Nat.zero_le _, Nat.zero_le _, Nat.zero_le _⟩

theorem measuresWithinBounds_powerOn : MeasuresWithinBounds (State.powerOn lineA lineB lineCut freeIx pending) :=
  (measuresWithinBounds_iff _).mpr ⟨Odo.InRange.reset .., Blk.DriftInRange.reset⟩

theorem tableState_reset_wellFormed (i : TableId) : (TableState.reset i.entries).wellFormed i := by
  have zeros : ∀ v ∈ List.replicate i.entries 0, v ≤ i.top := fun v hv => by
    rw [List.eq_of_mem_replicate hv]
    exact Nat.zero_le _
  exact ⟨List.length_replicate, List.length_replicate, zeros, zeros, Nat.zero_le _⟩

theorem tablesWellFormed_powerOn : TablesWellFormed (State.powerOn lineA lineB lineCut freeIx pending) :=
  ⟨tableState_reset_wellFormed .profile, tableState_reset_wellFormed .shade, tableState_reset_wellFormed .column,
    List.length_replicate⟩

theorem lightWithinRange_powerOn : LightWithinRange (State.powerOn lineA lineB lineCut freeIx pending) :=
  (lightWithinRange_iff _).mpr
    ⟨⟨rfl, fun i => by cases i <;> exact Buffer.eightDrives_free⟩, Ilc.InRange.reset, trivial⟩

theorem buffersCoherent_powerOn : BuffersCoherent (State.powerOn lineA lineB lineCut freeIx pending) :=
  (buffersCoherent_iff _).mpr ⟨.allFree _, fun _ => rfl⟩

theorem commitsDoNotLinger_powerOn : CommitsDoNotLinger (State.powerOn lineA lineB lineCut freeIx pending) :=
  ⟨fun _ => ⟨rfl, rfl⟩, fun _ _ => rfl, nofun, nofun, nofun⟩

theorem coverageCoherent_powerOn : CoverageCoherent (State.powerOn lineA lineB lineCut freeIx pending) :=
  ⟨List.length_replicate, nofun, nofun, iff_of_true rfl rfl⟩

end PowerOn

/-- Settles O51, invariant by invariant. -/
theorem resetMeetsEveryInvariant : Obligations.ResetMeetsEveryInvariant := by
  intro lineA lineB lineCut freeIx pending
  have ⟨stateCoherent, _⟩ := coherent_powerOn lineA lineB lineCut freeIx pending
  have strip : StripWithinRange (State.powerOn lineA lineB lineCut freeIx pending) := by
    simp [StripWithinRange, State.powerOn, Strip.reset]
  exact ⟨settled_powerOn .., ⟨Nat.zero_le _, Nat.zero_le _⟩, queuesWithinLimits_powerOn .., measuresWithinBounds_powerOn ..,
    strip, tablesWellFormed_powerOn .., ⟨Nat.zero_le _, Nat.zero_le _⟩, lightWithinRange_powerOn .., stateCoherent,
    buffersCoherent_powerOn .., commitsDoNotLinger_powerOn .., coverageCoherent_powerOn .., trivial⟩

end Sys2Proof.Machine

namespace Sys2Proof.Machine

-- With it on, the many small proofs start more threads than the check's limits allow.
set_option Elab.async false

/-! ## What the rows of a calibration readout add (R60) -/

/-- Row after row, each column's sum takes that column's samples. -/
theorem foldl_addRow_getD (rows : List (List Nat)) (sums : List Nat) (fits : ∀ row ∈ rows, row.length ≤ sums.length)
    (x : Nat) : (rows.foldl addRow sums).getD x 0 = sums.getD x 0 + (rows.map (fun row => row.getD x 0)).sum := by
  induction rows generalizing sums with
  | nil => rfl
  | cons row rows ih =>
    obtain ⟨first, others⟩ := List.forall_mem_cons.mp fits
    rw [List.foldl_cons, ih (addRow sums row) (by simpa using others), addRow_getD sums row first, List.map_cons,
      List.sum_cons, Nat.add_assoc]

theorem saturatedCount_eq_countP (rows : List (List Nat)) :
    saturatedCount rows = (rows.map (fun row => row.countP (fun v => v == 4095))).sum := by
  simp only [saturatedCount, List.countP_eq_length_filter, beq_eq_decide]

/-! ## The offsets a long calibration writes (R61) -/

theorem Blk.offsets_length (b : Blk) {width : Nat} (height : Nat) (fits : width ≤ b.colSums.length) :
    (b.offsets width height).length = width := by
  rw [Blk.offsets, List.length_map, List.length_take, Nat.min_eq_left fits]

/-- The offset of a column of the window is that of its sum. -/
theorem Blk.offsets_getD (b : Blk) {width x : Nat} (height : Nat) (fits : width ≤ b.colSums.length)
    (inside : x < width) :
    (b.offsets width height).getD x 0 = columnOffset height (b.colSums.getD x 0) := by
  have summed : x < (b.colSums.take width).length := by rw [List.length_take]; omega
  rw [Blk.offsets, getD_map_of_lt _ _ _ 0 _ summed, List.getD_eq_getElem?_getD, List.getElem?_take_of_lt inside,
    List.getD_eq_getElem?_getD]

/-- The window's offsets stand in front of the entries that are kept. -/
theorem completeCalibration_active (r : ExposureRecord) (s : State) :
    (completeCalibration r s).tbu.column.active =
      s.blk.offsets r.width r.height ++ s.tbu.column.active.drop (s.blk.offsets r.width r.height).length := rfl

/-- The offsets in front take nothing from the entries behind the window. -/
theorem completeCalibration_getD_outside (r : ExposureRecord) (s : State) (fits : r.width ≤ s.blk.colSums.length)
    {x : Nat} (outside : r.width ≤ x) :
    (completeCalibration r s).tbu.column.active.getD x 0 = s.tbu.column.active.getD x 0 := by
  have written : (s.blk.offsets r.width r.height).length = r.width := s.blk.offsets_length r.height fits
  rw [completeCalibration_active, List.getD_append_right _ _ _ _ (by omega), List.getD_eq_getElem?_getD,
    List.getElem?_drop, Nat.add_sub_cancel' (by omega), List.getD_eq_getElem?_getD]

theorem completeCalibration_getD_window (r : ExposureRecord) (s : State) (fits : r.width ≤ s.blk.colSums.length)
    {x : Nat} (inside : x < r.width) :
    (completeCalibration r s).tbu.column.active.getD x 0 = (s.blk.offsets r.width r.height).getD x 0 := by
  rw [completeCalibration_active, List.getD_append _ _ _ _ (by rwa [s.blk.offsets_length r.height fits])]

/-- What stands in the offsets is what the window's columns hold after the calibration. -/
theorem mem_offsets_iff_completeCalibration (r : ExposureRecord) (s : State) (fits : r.width ≤ s.blk.colSums.length)
    (v : Nat) :
    v ∈ s.blk.offsets r.width r.height
      ↔ ∃ x, x < r.width ∧ (completeCalibration r s).tbu.column.active.getD x 0 = v := by
  have written : (s.blk.offsets r.width r.height).length = r.width := s.blk.offsets_length r.height fits
  have column {x : Nat} (inside : x < r.width) :
      (completeCalibration r s).tbu.column.active.getD x 0
        = (s.blk.offsets r.width r.height)[x]'(by rwa [written]) := by
    rw [completeCalibration_getD_window r s fits inside, List.getD_eq_getElem _ _ (by rwa [written])]
  rw [List.mem_iff_getElem]
  constructor
  · rintro ⟨x, inside, same⟩
    rw [written] at inside
    exact ⟨x, inside, (column inside).trans same⟩
  · rintro ⟨x, inside, same⟩
    exact ⟨x, by rwa [written], (column inside).symm.trans same⟩

/-- CAL_DONE reports the least and the greatest offset: the folds' starting values, the ends of the range, do not show when
the window has a column (R187). -/
theorem completeCalibration_lnk (r : ExposureRecord) (s : State) (present : s.blk.offsets r.width r.height ≠ []) :
    (completeCalibration r s).lnk =
      s.lnk.raise (.event (.calDone (nextGen s.tbu.column.gen) r.width r.height
        ((s.blk.offsets r.width r.height).min present) ((s.blk.offsets r.width r.height).max present)
        s.blk.calSaturated)) := by
  have inRange : (s.blk.offsets r.width r.height).min present ≤ 4095 := by
    obtain ⟨sum, -, offset⟩ := List.mem_map.mp (List.min_mem present)
    exact (Nat.le_of_eq offset.symm).trans (columnOffset_le r.height sum)
  have least := (List.foldl_min_eq_min present (a := 4095)).trans (Nat.min_eq_right inRange)
  have greatest := (List.foldl_max_eq_max present (a := 0)).trans (Nat.zero_max _)
  rw [← least, ← greatest]
  rfl

/-- Settles O29: the sums row by row, the offsets column by column, and CAL_DONE from what the offsets hold. -/
theorem calibrationWritesTheColumnOffsets : Obligations.CalibrationWritesTheColumnOffsets := by
  refine ⟨fun b rows fits => ⟨b.accumulate_colSums_length rows, foldl_addRow_getD rows b.colSums fits,
    congrArg (b.calSaturated + ·) (saturatedCount_eq_countP rows), rfl⟩, fun r s sums _ narrow => ?_⟩
  have fits : r.width ≤ s.blk.colSums.length := sums ▸ narrow
  have holds := mem_offsets_iff_completeCalibration r s fits
  refine ⟨fun x inside => ?_, fun x => completeCalibration_getD_outside r s fits, rfl, rfl, rfl, rfl, rfl, rfl, rfl,
    fun wide => ?_, rfl⟩
  · rw [completeCalibration_getD_window r s fits inside, s.blk.offsets_getD r.height fits inside, columnOffset]
  · have present : s.blk.offsets r.width r.height ≠ [] := by
      rw [← List.length_pos_iff_ne_nil, s.blk.offsets_length r.height fits]
      exact wide
    refine ⟨(s.blk.offsets r.width r.height).min present, (s.blk.offsets r.width r.height).max present,
      fun x inside => ?_, (holds _).mp (List.min_mem present), (holds _).mp (List.max_mem present),
      completeCalibration_lnk r s present⟩
    have offset := (holds _).mpr ⟨x, inside, rfl⟩
    exact ⟨List.min_le_of_mem offset, List.le_max_of_mem offset⟩

end Sys2Proof.Machine

/-! # Polar resampling: the sector trim, the rows of a render and of a trial, and the rows accounted for -/

namespace Sys2Proof.Machine

-- With it on, the many small proofs start more threads than the check's limits allow.
set_option Elab.async false

/-! ## The sector trim (R81) -/

/-- The place of an angle behind the last sector centre but for whole turns (R81). -/
theorem angle_behind_centre (a : Nat) : (((a : Int) - 256) % 4096).toNat = (a + 3840) % 4096 := by omega

/-- A blend of two values in a range, rounded to the nearest, stays in the range. -/
theorem blend_between {lo hi f x y : Nat} (weight : f ≤ 512) (hx : lo ≤ x ∧ x ≤ hi) (hy : lo ≤ y ∧ y ≤ hi) :
    lo ≤ ((512 - f) * x + f * y + 256) / 512 ∧ ((512 - f) * x + f * y + 256) / 512 ≤ hi := by
  obtain ⟨g, whole⟩ := Nat.exists_eq_add_of_le weight
  have other : 512 - f = g := by omega
  have total (v : Nat) : g * v + f * v = 512 * v := by rw [← Nat.add_mul, Nat.add_comm g f, ← whole]
  have least := Nat.add_le_add (Nat.mul_le_mul_left g hx.1) (Nat.mul_le_mul_left f hy.1)
  have greatest := Nat.add_le_add (Nat.mul_le_mul_left g hx.2) (Nat.mul_le_mul_left f hy.2)
  rw [total] at least greatest
  rw [other]
  omega

/-- At the centre of a sector the neighbour has no weight. -/
theorem trimAt_centre (trims : List Nat) {j : Nat} (sector : j < 8) : trimAt trims (512 * j + 256) = trims.getD j 0 := by
  have own : (512 * j + 256 + 3840) % 4096 / 512 = j := by omega
  have centre : (512 * j + 256 + 3840) % 4096 % 512 = 0 := by omega
  unfold trimAt
  simp only [own, centre]
  omega

theorem trimAt_between {trims : List Nat} {lo hi : Nat} (eight : trims.length = 8) (range : ∀ t ∈ trims, lo ≤ t ∧ t ≤ hi)
    (a : Nat) : lo ≤ trimAt trims a ∧ trimAt trims a ≤ hi := by
  have listed {k : Nat} (sector : k < 8) : lo ≤ trims.getD k 0 ∧ trims.getD k 0 ≤ hi := by
    rw [List.getD_eq_getElem _ _ (eight.symm ▸ sector)]
    exact range _ (List.getElem_mem _)
  unfold trimAt
  exact blend_between (by omega) (listed (by omega)) (listed (by omega))

/-- A pixel is kept under the sector of its sensor angle, clipped or not (R73, R80). -/
theorem renderPixel_sector (k : RenderContext) (samples : List (List Nat)) (s c : Nat) :
    (renderPixel k samples s c).sector = sensorAngle k.w k.rollTotal c / 512 := by
  unfold renderPixel
  dsimp only
  split <;> rfl

/-- Settles O39: the blend is the model's own, and the centres, the range and the sectors follow from it. -/
theorem sectorTrimIsBlended : Obligations.SectorTrimIsBlended := by
  intro trims a turn
  rw [angle_behind_centre]
  refine ⟨rfl, fun j sector centre => ?_, fun eight range => trimAt_between eight range a, by omega,
    fun ctx samples s c angle => ?_⟩
  · rw [centre, trimAt_centre trims sector]
  · rw [renderPixel_sector, sensorAngle, angle]

/-! ## The statistics and the result of a row (R80, R83, R84) -/

/-- Pixel after pixel a sector counts each, and adds up their pre-trim values and the saturated ones. -/
theorem foldl_sectorStat_add (pixels : List Pixel) (st : SectorStat) :
    pixels.foldl SectorStat.add st =
      ⟨st.count + pixels.length, st.sum + (pixels.map (·.u)).sum, st.saturated + (pixels.filter (·.saturated)).length⟩ := by
  induction pixels generalizing st with
  | nil => rfl
  | cons p rest ih =>
    rw [List.foldl_cons, ih]
    cases saturated : p.saturated <;> simp [SectorStat.add, bit, saturated] <;> omega

/-- A sector's sums take the row's unclipped pixels of that sector (R80). -/
theorem addStatistics_getD (stats : List SectorStat) (pixels : List Pixel) {k : Nat} (sector : k < stats.length) :
    (addStatistics stats pixels).getD k ⟨0, 0, 0⟩ =
      (pixels.filter (fun p => !p.clipped && p.sector == k)).foldl SectorStat.add (stats.getD k ⟨0, 0, 0⟩) := by
  rw [List.getD_eq_getElem _ _ (by simpa using sector), List.getD_eq_getElem _ _ sector]
  exact List.getElem_mapIdx

/-- A row's result with its pixels counted (R83, R84). -/
theorem rowResult_eq (k : RenderContext) (kind : RowKind) (row : Int) (s : Nat) (unsettled : Bool) (pixels : List Pixel) :
    rowResult k kind row s unsettled pixels =
      { kind := kind, row := row, frameNumber := k.frameNumber, position := k.position, s := s
        direction := k.direction, rollTotal := k.rollTotal, cx := k.cx, cy := k.cy
        profileGen := k.profileGen, shadeGen := k.shadeGen, columnGen := k.columnGen
        flags :=
          { unsettled := unsettled, saturated := decide (k.w / 64 < pixels.countP (·.saturated)), late := false
            revisit := false, rollStale := k.rollStale, centreHeld := k.centreHeld
            clipped := decide (k.w / 8 < pixels.countP (·.clipped)) }
        clipCount := pixels.countP (·.clipped), satCount := pixels.countP (·.saturated), w := k.w, depth := k.depth
        pixels := pixels.map (·.value) } := by
  simp only [List.countP_eq_length_filter]
  rfl

theorem RenderContext.unsettled_eq (k : RenderContext) : k.unsettled = decide (k.loopState ≠ .locked) := by
  cases h : k.loopState <;> simp [RenderContext.unsettled, h]

/-! ## The row store takes a row (R142 to R144) -/

theorem Rws.rowSlotFree_iff (r : Rws) : r.rowSlotFree = true ↔ r.rowCount < 1008 ∧ r.fill < 1024 := by
  simp [Rws.rowSlotFree]

/-- An entry stored stands behind every other, and the store term and the level follow the fill (R31, R32, R144). -/
theorem storeEntry_eq (e : Entry) (s : State) :
    storeEntry e s =
      { s with
        rws := { s.rws with entries := s.rws.entries ++ [e] }
        odo := ({ s.odo with
          storeTerm := storeTermAfter s.odo.advisory (s.rws.entries.length + 1) s.odo.storeTerm }).reformLevel
            s.fsq.opState } := by
  unfold storeEntry fillChanged Odo.fillChanged
  rw [Rws.push_fill]
  rfl

/-! ## The completion of a row (R71, R72) -/

theorem handOn_take_none {k : RenderContext} {n : Int} {sp : Nat} {pixels : List Pixel} {s : State}
    (rejected : (s.cvt.decide (rowResult k .take n sp k.unsettled pixels) s.rws.rowSlotFree).2 = none) :
    handOn k (.take n sp) pixels s =
      { s with cvt := (s.cvt.decide (rowResult k .take n sp k.unsettled pixels) s.rws.rowSlotFree).1 } := by
  unfold handOn decideRow
  simp only [rejected]

theorem handOn_take_some {k : RenderContext} {n : Int} {sp : Nat} {pixels : List Pixel} {s : State} {e : RowEntry}
    (stored : (s.cvt.decide (rowResult k .take n sp k.unsettled pixels) s.rws.rowSlotFree).2 = some e) :
    handOn k (.take n sp) pixels s =
      storeEntry (.row e)
        { s with cvt := (s.cvt.decide (rowResult k .take n sp k.unsettled pixels) s.rws.rowSlotFree).1 } := by
  unfold handOn decideRow
  simp only [stored]

/-- Behind a row that is not the last GEO goes on to the next. -/
theorem rowCompletion_next {s : State} {w : RenderWork} {f : Frame} {item : RowItem} (geo : s.geo = .render w)
    (buffer : s.fsq.buffers.get w.buffer = .rendering f) (row : w.rows[w.done]? = some item)
    (more : w.done + 1 < w.rows.length) :
    let pixels := renderRow w.context f.samples item.position
    rowCompletion s =
      { handOn w.context item pixels s with
        geo := .render { w with done := w.done + 1, stats := addStatistics w.stats pixels } } := by
  unfold rowCompletion completeRow
  simp only [geo, row, buffer]
  exact if_neg (not_le.mpr more)

theorem rowCompletion_outside {s : State} (outside : ∀ w, s.geo ≠ .render w) : rowCompletion s = s := by
  unfold rowCompletion
  split
  · next w geo => exact absurd geo (outside w)
  all_goals rfl

/-- Settles O36: what is handed on by CVT's decision, the next row, and the statistics and the result by counting. -/
theorem rowCompletionGoesOnToTheNextRow : Obligations.RowCompletionGoesOnToTheNextRow := by
  refine ⟨fun k pixels s => ⟨fun _ => rfl, fun n sp => ?_⟩, fun s w f item geo buffer row more => ?_,
    fun stats pixels => ⟨addStatistics_length stats pixels, fun k sector => ?_⟩, rowResult_eq,
    fun r => ⟨rowCount_eq r, rfl, r.rowSlotFree_iff⟩, fun _ _ => ⟨rfl, rfl⟩, fun s outside => ?_⟩
  · rw [← k.unsettled_eq]
    exact ⟨handOn_take_none, fun e stored => by rw [handOn_take_some stored, storeEntry_eq]⟩
  · exact congrArg (fun t => Host.Outcome.next (settle t)) (rowCompletion_next geo buffer row more)
  · dsimp only
    rw [addStatistics_getD stats pixels sector, foldl_sectorStat_add]
  · exact congrArg (fun t => Host.Outcome.next (settle t)) (rowCompletion_outside outside)

/-! ## Trial rows (R89, R153) -/

/-- A trial row stored: the next row follows, or TRIAL_DONE is raised and GEO is idle. -/
theorem storeTrialRow_eq (w : TrialWork) (e : RowEntry) (s : State) :
    storeTrialRow w e s =
      if w.done + 1 < w.rows.length then { storeEntry (.row e) s with geo := .trial { w with done := w.done + 1 } }
      else
        raiseEvent (.trialDone w.context.frameNumber w.rows.length w.context.profileGen w.context.shadeGen)
          { storeEntry (.row e) s with geo := .idle } := by
  unfold storeTrialRow
  by_cases more : w.done + 1 < w.rows.length
  · rw [if_pos more]
    exact if_neg (not_le.mpr more)
  · rw [if_neg more]
    exact if_pos (not_lt.mp more)

theorem trialRowCompletion_offers {s : State} {w : TrialWork} {f : Frame} {r : Nat} (geo : s.geo = .trial w)
    (buffer : s.fsq.buffers.get w.buffer = .held f) (row : w.rows[w.done]? = some r) :
    trialRowCompletion s = offerTrialRow w (trialResult w.context r f.samples) s := by
  unfold trialRowCompletion
  simp only [geo, row, buffer]

theorem trialRowCompletion_outside {s : State} (outside : ∀ w, s.geo ≠ .trial w) : trialRowCompletion s = s := by
  unfold trialRowCompletion
  split
  · next w geo => exact absurd geo (outside w)
  all_goals rfl

/-- Settles O43: a trial row stored by whether it is the last, and offered by whether a row slot is free. -/
theorem trialRowIsStoredOrWaits : Obligations.TrialRowIsStoredOrWaits := by
  refine ⟨fun s w e => ?_, fun s w f r geo buffer row => ?_, fun s outside => ?_⟩
  · rw [storeTrialRow_eq, storeEntry_eq]
  · refine congrArg (fun t => Host.Outcome.next (settle t)) ?_
    rw [trialRowCompletion_offers geo buffer row]
    unfold offerTrialRow
    simp only [Rws.rowSlotFree_iff]
    rfl
  · exact congrArg (fun t => Host.Outcome.next (settle t)) (trialRowCompletion_outside outside)

end Sys2Proof.Machine

namespace Sys2Proof.Machine

-- With it on, the many small proofs start more threads than the check's limits allow.
set_option Elab.async false

/-! ## What a decision changes of CVT (R131 to R133, R137) -/

/-- The take rows of a frame that have been decided: each is one taken, retaken, rejected or skipped (R137). -/
def FrameCounts.decided (f : FrameCounts) : Nat := f.taken + f.retaken + f.rejected + f.skips

theorem Cvt.setState_takeList (c : Cvt) (n : Int) (st : RowState) : (c.setState n st).takeList = c.takeList := by
  unfold Cvt.setState
  split <;> rfl

/-- The state of a row is its own: no other row's entry moves with it. -/
theorem Cvt.entryOf_setState_of_ne (c : Cvt) {n m : Int} (st : RowState) (other : m ≠ n) :
    (c.setState n st).entryOf m = c.entryOf m := by
  unfold Cvt.setState
  split
  case isFalse => rfl
  case isTrue inside =>
    unfold Cvt.entryOf Cvt.inWindow
    dsimp only
    split
    case isFalse => rfl
    case isTrue inside' =>
      have apart : (n - c.wb).toNat ≠ (m - c.wb).toNat := by
        simp only [Cvt.inWindow, decide_eq_true_eq] at inside inside'
        omega
      rw [List.getD_eq_getElem?_getD, List.getElem?_set_ne apart, List.getD_eq_getElem?_getD]

/-- CVT with one more row of the frame counted, the ring entry of row `n` in another state or the ring as it was. -/
def Cvt.CountsRow (c : Cvt) (n : Int) (c' : Cvt) : Prop :=
  ∃ counts : FrameCounts, counts.decided = c.counts.decided + 1
    ∧ (c' = { c with counts := counts } ∨ ∃ st, c' = { c.setState n st with counts := counts })

theorem Cvt.take_countsRow (c : Cvt) (row : RowEntry) (slot : Bool) : c.CountsRow row.row (c.take row slot).1 := by
  unfold Cvt.take
  split
  · exact ⟨_, by simp only [FrameCounts.decided]; omega, .inr ⟨_, rfl⟩⟩
  · exact ⟨_, by simp only [FrameCounts.decided]; omega, .inl rfl⟩

theorem Cvt.retake_countsRow (c : Cvt) (row : RowEntry) (slot : Bool) : c.CountsRow row.row (c.retake row slot).1 := by
  unfold Cvt.retake
  split
  · exact ⟨_, by simp only [FrameCounts.decided]; omega, .inr ⟨_, rfl⟩⟩
  · exact ⟨_, by simp only [FrameCounts.decided]; omega, .inl rfl⟩

/-- A decision counts its row; a FIRM row is none to decide (log 4). -/
theorem Cvt.decide_cases (c : Cvt) (row : RowEntry) (slot : Bool) :
    (c.entryOf row.row).state = .firm ∧ (c.decide row slot).1 = c ∨ c.CountsRow row.row (c.decide row slot).1 := by
  unfold Cvt.decide
  split
  · exact .inr (c.take_countsRow row slot)
  · exact .inr (c.take_countsRow row slot)
  · exact .inr (c.retake_countsRow row slot)
  · next firm => exact .inl ⟨firm, rfl⟩

theorem Cvt.decide_takeList (c : Cvt) (row : RowEntry) (slot : Bool) : (c.decide row slot).1.takeList = c.takeList := by
  obtain ⟨-, same⟩ | ⟨counts, -, same | ⟨st, same⟩⟩ := c.decide_cases row slot
  · rw [same]
  · rw [same]
  · rw [same]
    exact c.setState_takeList row.row st

theorem Cvt.entryOf_decide_of_ne (c : Cvt) {row : RowEntry} (slot : Bool) {n : Int} (other : n ≠ row.row) :
    (c.decide row slot).1.entryOf n = c.entryOf n := by
  obtain ⟨-, same⟩ | ⟨counts, -, same | ⟨st, same⟩⟩ := c.decide_cases row slot
  · rw [same]
  · rw [same]
    rfl
  · rw [same]
    exact c.entryOf_setState_of_ne st other

theorem Cvt.decide_decided {c : Cvt} {row : RowEntry} (slot : Bool) (open_ : (c.entryOf row.row).state ≠ .firm) :
    (c.decide row slot).1.counts.decided = c.counts.decided + 1 := by
  obtain ⟨firm, -⟩ | ⟨counts, one, same | ⟨st, same⟩⟩ := c.decide_cases row slot
  · exact absurd firm open_
  · rw [same]
    exact one
  · rw [same]
    exact one

theorem handOn_take_cvt (k : RenderContext) (n : Int) (sp : Nat) (pixels : List Pixel) (s : State) :
    (handOn k (.take n sp) pixels s).cvt =
      (s.cvt.decide (rowResult k .take n sp k.unsettled pixels) s.rws.rowSlotFree).1 := by
  cases stored : (s.cvt.decide (rowResult k .take n sp k.unsettled pixels) s.rws.rowSlotFree).2 with
  | none => rw [handOn_take_none stored]
  | some e => rw [handOn_take_some stored, storeEntry_cvt]

/-! ## The rows of a render (R71) -/

theorem rowList_take {takes : List (Int × Nat)} {b0 b1 i : Nat} {n : Int} {sp : Nat}
    (row : (rowList takes b0 b1)[i]? = some (.take n sp)) : takes[i]? = some (n, sp) := by
  have listed : (takes.map (fun p => RowItem.take p.1 p.2))[i]? = some (.take n sp) := by
    rw [rowList_eq] at row
    split at row
    · exact row
    · rw [List.getElem?_append] at row
      split at row
      · exact row
      · rw [List.getElem?_singleton] at row
        split at row <;> cases row
  rw [List.getElem?_map, Option.map_eq_some_iff] at listed
  obtain ⟨⟨m, t⟩, found, same⟩ := listed
  cases same
  exact found

theorem rowList_meter {takes : List (Int × Nat)} {b0 b1 i sp : Nat}
    (row : (rowList takes b0 b1)[i]? = some (.meter sp)) : takes.length ≤ i := by
  by_contra inside
  have listed : (rowList takes b0 b1)[i]? = (takes.map (fun p => RowItem.take p.1 p.2))[i]? := by
    rw [rowList_eq]
    split
    · rfl
    · exact List.getElem?_append_left (by simpa using inside)
  rw [listed, List.getElem?_map, Option.map_eq_some_iff] at row
  obtain ⟨p, -, isMeter⟩ := row
  cases isMeter

theorem Cvt.buildTakeList_nodup (c : Cvt) (r : StripRecord) (xf : Int) (travel : Travel) :
    ((c.buildTakeList r xf travel).map (·.1)).Nodup := by
  have ascending : ((c.openRows r xf).map (·.1)).Nodup :=
    List.pairwise_map.mpr ((c.openRows_ascending r xf).imp fun h => ne_of_lt h)
  cases travel with
  | forward => exact ascending
  | reverse => rw [Cvt.buildTakeList_reverse, List.map_reverse]; exact List.nodup_reverse.mpr ascending

/-- The rows of a render in flight accounted for (R71, R131, R137). -/
structure RowsAccounted (w : RenderWork) (c : Cvt) : Prop where
  rows : w.rows = rowList c.takeList w.context.b0 w.context.b1
  nodup : (c.takeList.map (·.1)).Nodup
  ahead : ∀ p ∈ c.takeList.drop w.done, (c.entryOf p.1).state ≠ .firm
  counted : c.counts.decided = min w.done c.takeList.length

/-- At a render start no row is counted, and the take list holds rows that are not FIRM, each once (R129, R137). -/
theorem rowsAccounted_renderStart (c : Cvt) (r : StripRecord) (xf : Int) {w : RenderWork}
    (rows : w.rows = rowList (c.renderStart r xf).cvt.takeList w.context.b0 w.context.b1) (first : w.done = 0) :
    RowsAccounted w (c.renderStart r xf).cvt where
  rows := rows
  nodup := Cvt.buildTakeList_nodup ..
  ahead := by
    rintro ⟨n, sp⟩ later
    have listed := (Cvt.mem_buildTakeList ..).mp (List.mem_of_mem_drop later)
    obtain ⟨-, -, open_, -⟩ := (Cvt.mem_openRows ..).mp listed
    exact open_
  counted := by rw [first, Nat.zero_min]; rfl

namespace RowsAccounted

variable {w w' : RenderWork} {c : Cvt}

/-- A take row decided is counted, and the rows behind it, other rows than it, stay as they are. -/
theorem take (h : RowsAccounted w c) {row : RowEntry} {sp : Nat} (slot : Bool)
    (taken : c.takeList[w.done]? = some (row.row, sp)) (rows : w'.rows = w.rows) (context : w'.context = w.context)
    (done : w'.done = w.done + 1) : RowsAccounted w' (c.decide row slot).1 := by
  obtain ⟨inside, found⟩ := List.getElem?_eq_some_iff.mp taken
  have front := List.drop_eq_getElem_cons inside
  rw [found] at front
  have open_ : (c.entryOf row.row).state ≠ .firm := h.ahead (row.row, sp) (by rw [front]; exact List.mem_cons_self)
  have apart : row.row ∉ (c.takeList.drop (w.done + 1)).map (·.1) := by
    have nodup := h.nodup.sublist ((List.drop_sublist w.done c.takeList).map (·.1))
    rw [front, List.map_cons] at nodup
    exact (List.nodup_cons.mp nodup).1
  exact
    { rows := by rw [rows, context, Cvt.decide_takeList]; exact h.rows
      nodup := by rw [Cvt.decide_takeList]; exact h.nodup
      ahead := by
        rw [Cvt.decide_takeList, done]
        intro p later
        have other : p.1 ≠ row.row := fun same => apart (same ▸ List.mem_map_of_mem later)
        rw [Cvt.entryOf_decide_of_ne c slot other]
        exact h.ahead p (by rw [front]; exact List.mem_cons_of_mem _ later)
      counted := by
        rw [Cvt.decide_takeList, Cvt.decide_decided slot open_, h.counted, done]
        omega }

/-- A meter row stands behind the take rows and counts for none. -/
theorem meter (h : RowsAccounted w c) (past : c.takeList.length ≤ w.done) (rows : w'.rows = w.rows)
    (context : w'.context = w.context) (done : w'.done = w.done + 1) : RowsAccounted w' c where
  rows := by rw [rows, context]; exact h.rows
  nodup := h.nodup
  ahead := by rw [done, List.drop_eq_nil_of_le (by omega)]; exact List.forall_mem_nil _
  counted := by rw [h.counted, done]; omega

/-- The row in hand completed, whichever it is. -/
theorem handOn {s : State} (h : RowsAccounted w s.cvt) (k : RenderContext) {item : RowItem} (pixels : List Pixel)
    (row : w.rows[w.done]? = some item) (rows : w'.rows = w.rows) (context : w'.context = w.context)
    (done : w'.done = w.done + 1) : RowsAccounted w' (handOn k item pixels s).cvt := by
  rw [h.rows] at row
  cases item with
  | take n sp =>
    rw [handOn_take_cvt]
    exact h.take s.rws.rowSlotFree (rowList_take row) rows context done
  | meter sp => exact h.meter (rowList_meter row) rows context done

end RowsAccounted

/-! ## A render in flight, its buffer and the operating state (R34, R39, R60, R68) -/

theorem Geo.idle_ne_render (w : RenderWork) : Geo.idle ≠ .render w := nofun

theorem Geo.trial_ne_render (work : TrialWork) (w : RenderWork) : Geo.trial work ≠ .render w := nofun

theorem Geo.trialWait_ne_render (work : TrialWork) (kept : RowEntry) (w : RenderWork) :
    Geo.trialWait work kept ≠ .render w := nofun

/-- What a render in flight stands on: it runs in STREAMING or STOPPING with its buffer RENDERING, and its rows are accounted
for. A CALIBRATION exposure is the only one in flight, in CALIBRATING: its readout ends that state, and so no render's. -/
structure RenderStands (op : OpState) (b : Buffers) (g : Geo) (c : Cvt) : Prop where
  calibration : ∀ i r p, b.get i = .exposing r p → r.kind = .calibration →
    op = .calibrating ∧ ∀ j, j ≠ i → (b.get j).exposing?.isSome = false
  stream : ∀ w, g = .render w → (op = .streaming ∨ op = .stopping) ∧ (b.get w.buffer).rendering?.isSome = true
  accounted : ∀ w, g = .render w → RowsAccounted w c

/-- The state's render, if there is one, stands and is accounted for. -/
abbrev Accounts (s : State) : Prop := RenderStands s.fsq.opState s.fsq.buffers s.geo s.cvt

theorem takesAccounted_iff (s : State) : TakesAccounted s ↔ ∀ w, s.geo = .render w → RowsAccounted w s.cvt := by
  unfold TakesAccounted
  cases s.geo with
  | idle | trial | trialWait => simp
  | render w =>
    constructor
    · rintro ⟨rows, nodup, ahead, counted⟩ w' ⟨⟩
      exact ⟨rows, nodup, ahead, counted⟩
    · intro h
      obtain ⟨rows, nodup, ahead, counted⟩ := h w rfl
      exact ⟨rows, nodup, ahead, counted⟩

/-- Coherent buffers hold what a render stands on. -/
theorem accounts_of_coherent {s : State} (buffers : BuffersCoherent s) (takes : TakesAccounted s) : Accounts s := by
  have stands := ((buffersCoherent_iff s).mp buffers).stands
  refine ⟨fun i r p exposing calibration => ⟨?_, stands.dark_elsewhere exposing⟩, fun w geo => ⟨?_, ?_⟩,
    (takesAccounted_iff s).mp takes⟩
  · have fit := stands.fits i
    simpa [exposing, Buffer.fitsState, calibration] using fit
  · by_contra neither
    rw [not_or] at neither
    exact stands.no_render neither.1 neither.2 w geo
  · have work := stands.work
    rw [geo] at work
    exact work.1

namespace RenderStands

variable {op : OpState} {b : Buffers} {g : Geo} {c : Cvt}

theorem no_render (h : RenderStands op b g c) (notStreaming : op ≠ .streaming) (notStopping : op ≠ .stopping)
    (w : RenderWork) : g ≠ .render w :=
  fun geo => (h.stream w geo).1.elim notStreaming notStopping

/-- The buffers pass on: no exposure begins, and none leaves RENDERING. -/
theorem of_buffers (h : RenderStands op b g c) {b' : Buffers}
    (exposing : ∀ i r p, b'.get i = .exposing r p → ∃ p', b.get i = .exposing r p')
    (rendering : ∀ w, g = .render w → (b.get w.buffer).rendering?.isSome = true →
      (b'.get w.buffer).rendering?.isSome = true) : RenderStands op b' g c where
  calibration i r p inFlight kind := by
    obtain ⟨p', before⟩ := exposing i r p inFlight
    obtain ⟨calibrating, alone⟩ := h.calibration i r p' before kind
    refine ⟨calibrating, fun j other => ?_⟩
    have dark := alone j other
    cases v : b'.get j with
    | exposing r' p'' =>
      obtain ⟨p₀, before'⟩ := exposing j r' p'' v
      simp [before', Buffer.exposing?] at dark
    | free | ready | rendering | held => rfl
  stream w geo := ⟨(h.stream w geo).1, rendering w geo (h.stream w geo).2⟩
  accounted := h.accounted

/-- One buffer passes on. -/
theorem set_buffer (h : RenderStands op b g c) {i : BufferId} {v : Buffer}
    (exposing : ∀ r p, v = .exposing r p → ∃ p', b.get i = .exposing r p')
    (rendering : g = .idle ∨ ((b.get i).rendering?.isSome = true → v.rendering?.isSome = true)) :
    RenderStands op (b.set i v) g c := by
  refine h.of_buffers (fun j r p inFlight => ?_) (fun w geo before => ?_) <;> grind [Buffers.get_set]

/-- The exposure in flight leaves its buffer to its frame, or FREE (R47). -/
theorem endExposure (h : RenderStands op b g c) {i : BufferId} {r : ExposureRecord} {p : ExposurePhase} {v : Buffer}
    (inFlight : b.get i = .exposing r p) (ended : ∀ r p, v ≠ .exposing r p) : RenderStands op (b.set i v) g c :=
  h.set_buffer (fun r p same => absurd same (ended r p)) (.inr (by rw [inFlight]; nofun))

/-- An exposure starts in a FREE buffer; in CALIBRATING none is in flight beside it. -/
theorem expose (h : RenderStands op b g c) {i : BufferId} (free : b.get i = .free) (r : ExposureRecord) (p : ExposurePhase)
    (kind : r.kind = .calibration → op = .calibrating)
    (alone : op = .calibrating → ∀ j, (b.get j).exposing?.isSome = false) :
    RenderStands op (b.set i (.exposing r p)) g c where
  calibration j r' p' inFlight calibration := by
    rw [Buffers.get_set] at inFlight
    have calibrating : op = .calibrating := by
      split at inFlight
      · cases inFlight
        exact kind calibration
      · exact (h.calibration j r' p' inFlight calibration).1
    refine ⟨calibrating, fun k other => ?_⟩
    have dark := alone calibrating
    have here : j = i := by
      by_contra elsewhere
      rw [if_neg elsewhere] at inFlight
      have none := dark j
      simp [inFlight, Buffer.exposing?] at none
    rw [Buffers.get_set, if_neg (here ▸ other)]
    exact dark k
  stream w geo := by
    obtain ⟨state, rendering⟩ := h.stream w geo
    refine ⟨state, ?_⟩
    rw [Buffers.get_set]
    split
    · next same =>
      rw [same, free] at rendering
      cases rendering
    · exact rendering
  accounted := h.accounted

/-- CALIBRATING is left with no exposure in flight, and STREAMING and STOPPING with no render. -/
theorem changeState (h : RenderStands op b g c) {op' : OpState}
    (dark : op = .calibrating → ∀ i, (b.get i).exposing?.isSome = false)
    (stream : ∀ w, g = .render w → op' = .streaming ∨ op' = .stopping) : RenderStands op' b g c where
  calibration i r p inFlight kind := by
    have none := dark (h.calibration i r p inFlight kind).1 i
    simp [inFlight, Buffer.exposing?] at none
  stream w geo := ⟨stream w geo, (h.stream w geo).2⟩
  accounted := h.accounted

/-- With no render in flight CVT may be anything. -/
theorem noRender (h : RenderStands op b g c) {g' : Geo} {c' : Cvt} (none : ∀ w, g' ≠ .render w) :
    RenderStands op b g' c' where
  calibration := h.calibration
  stream w geo := absurd geo (none w)
  accounted w geo := absurd geo (none w)

/-- A render starts (R49). -/
theorem render (h : RenderStands op b g c) (streaming : op = .streaming) {i : BufferId} {f₀ : Frame}
    (ready : b.get i = .ready f₀) (f : Frame) {w : RenderWork} {c' : Cvt} (buffer : w.buffer = i)
    (accounted : RowsAccounted w c') : RenderStands op (b.set i (.rendering f)) (.render w) c' where
  calibration := (h.set_buffer (v := .rendering f) nofun (.inr (by rw [ready]; nofun))).calibration
  stream := by
    rintro w' ⟨⟩
    exact ⟨.inl streaming, by rw [buffer, Buffers.get_set_same]; rfl⟩
  accounted := by
    rintro w' ⟨⟩
    exact accounted

/-- A render goes on to its next row. -/
theorem goOn {w w' : RenderWork} (h : RenderStands op b (.render w) c) {c' : Cvt} (buffer : w'.buffer = w.buffer)
    (accounted : RowsAccounted w' c') : RenderStands op b (.render w') c' where
  calibration := h.calibration
  stream := by
    rintro w'' ⟨⟩
    rw [buffer]
    exact h.stream w rfl
  accounted := by
    rintro w'' ⟨⟩
    exact accounted

end RenderStands

/-! ## What an operation keeps of the rows accounted for -/

/-- An operation that keeps the rows of a render in flight accounted for. A clause not given is that of an operation that
leaves the operating state, the buffers, GEO and CVT as they are. -/
structure KeepsAccounts (s t : State) : Prop where
  accounts : Accounts s → Accounts t := by exact id

theorem SameCapture.keepsAccounts {s t : State} (h : SameCapture s t) (cvt : t.cvt = s.cvt) : KeepsAccounts s t where
  accounts := by rw [Accounts, Accounts, h.fsq, h.geo, cvt]; exact id

theorem applyIdleCommits_cvt (s : State) : (applyIdleCommits s).cvt = s.cvt := by rw [applyIdleCommits_frame]

theorem reportPhaseErrors_cvt (s : State) : (reportPhaseErrors s).cvt = s.cvt := by
  unfold reportPhaseErrors
  split <;> rfl

theorem accounts_setOpState {op : OpState} {s : State} :
    Accounts (setOpState op s) ↔ RenderStands op s.fsq.buffers s.geo s.cvt := by
  rw [setOpState_frame]

/-- An expiry starts a CALIBRATION exposure in CALIBRATING alone (R42). -/
theorem calibrating_of_expiryKind {s : State} (calibration : expiryKind s = .calibration) :
    s.fsq.opState = .calibrating := by
  unfold expiryKind at calibration
  split_ifs at calibration
  assumption

theorem Buffer.abandonExposure_exposing? (v : Buffer) : v.abandonExposure.exposing? = none := by cases v <;> rfl

theorem Buffer.discardReady_exposing? (v : Buffer) : v.discardReady.exposing? = v.exposing? := by cases v <;> rfl

theorem Buffer.discardReady_rendering? (v : Buffer) : v.discardReady.rendering? = v.rendering? := by cases v <;> rfl

/-- Of the commands that leave FSQ, ILC and GEO alone STRIP is the one that reaches CVT. -/
theorem runCommand_cvt (tag : Byte) (c : Command) (s : State) (other : reachesCapture c = false)
    (noStrip : ∀ r, c ≠ .strip r) : (runCommand tag c s).cvt = s.cvt := by
  have answered {r : State × Answer} (h : r.1.cvt = s.cvt) : (answer tag r).cvt = s.cvt := h
  cases c with
  | unknown _ | malformed | identify _ | status => rfl
  | strip r => exact absurd rfl (noStrip r)
  | centre r =>
    refine answered ?_
    unfold cmdCentre
    split
    · rfl
    · split <;> rfl
  | odometer r => exact answered (by unfold cmdOdometer; split_ifs <;> rfl)
  | advisory r => exact answered (by unfold cmdAdvisory; split_ifs <;> rfl)
  | preview n => exact answered (by unfold cmdPreview; split <;> rfl)
  | preset x => exact answered (by unfold cmdPreset; split_ifs <;> rfl)
  | tableWrite table start values =>
    refine answered ?_
    unfold cmdTableWrite
    split
    · rfl
    · split <;> rfl
  | tableRead table copy start count =>
    refine answered ?_
    unfold cmdTableRead
    repeat' split
    all_goals rfl
  | commit table expected =>
    refine answered ?_
    unfold cmdCommit
    split
    · rfl
    · dsimp only
      split_ifs
      · rfl
      · rfl
      · exact applyIdleCommits_cvt _
  | sync =>
    unfold runCommand cmdSync
    split_ifs <;> rfl
  | note text =>
    refine answered ?_
    unfold cmdNote
    split
    · rfl
    · split <;> rfl
  | sensor | light | dark | calibrate | start | stop | relight | hold | release | rerender | resetStream | resetFull =>
    cases other

namespace KeepsAccounts

theorem refl (s : State) : KeepsAccounts s s := {}

theorem trans {s t u : State} (h : KeepsAccounts s t) (h' : KeepsAccounts t u) : KeepsAccounts s u :=
  ⟨h'.accounts ∘ h.accounts⟩

theorem applyIdleCommits (s : State) : KeepsAccounts s (applyIdleCommits s) :=
  (SameCapture.applyIdleCommits s).keepsAccounts (applyIdleCommits_cvt s)

/-- STOPPING ends with no buffer RENDERING, and so with no render in flight (R39). -/
theorem stopTest (s : State) : KeepsAccounts s (stopTest s) where
  accounts h := by
    by_cases ends : s.fsq.opState = .stopping ∧ s.fsq.buffers.anyExposing = false ∧ s.fsq.buffers.anyRendering = false
    · obtain ⟨stopping, dark, still⟩ := ends
      rw [stopTest_ends stopping dark still]
      refine (accounts_setOpState (s := { s with fsq := { s.fsq with holdMark := false } })).mpr
        (h.changeState (by rw [stopping]; nofun) fun w geo => ?_)
      have rendering := (h.stream w geo).2
      rw [(Buffers.anyRendering_eq_false_iff _).mp still] at rendering
      cases rendering
    · rw [stopTest_waits (by simp only [not_and_or, Bool.not_eq_false] at ends; exact ends)]
      exact h

/-! ### Exposures (R42 to R46) -/

theorem startExposure (kind : FrameKind) {i : BufferId} {s : State} (free : s.fsq.buffers.get i = .free)
    (calibration : kind = .calibration → s.fsq.opState = .calibrating)
    (alone : s.fsq.opState = .calibrating → ∀ j, (s.fsq.buffers.get j).exposing?.isSome = false) :
    KeepsAccounts s (startExposure kind i s) where
  accounts h := by
    rw [startExposure_eq]
    exact h.expose free _ _ calibration alone

theorem timerExpiry (s : State) : KeepsAccounts s (timerExpiry s) := by
  have expired (u : State) : KeepsAccounts u (expire u) := by
    unfold expire
    split
    case isTrue => exact {}
    case isFalse dark =>
      split
      case h_1 => exact {}
      case h_2 i free =>
        exact startExposure _ (Buffers.get_of_freeBuffer free) calibrating_of_expiryKind fun _ =>
          (Buffers.anyExposing_eq_false_iff _).mp (Bool.not_eq_true _ ▸ dark)
  unfold Machine.timerExpiry
  split
  · exact refl s
  · exact .trans (t := { s with fsq := { s.fsq with timer := some s.fsq.sensor.period } }) {} (expired _)

/-- The exposure in flight goes into its next phase (R46). -/
theorem nextPhase {s : State} {i : BufferId} {r : ExposureRecord} {p : ExposurePhase}
    (phase : s.fsq.buffers.exposure = some (i, r, p)) (p' : ExposurePhase) :
    Accounts s → RenderStands s.fsq.opState (s.fsq.buffers.set i (.exposing r p')) s.geo s.cvt := by
  have inFlight := Buffers.get_of_exposure phase
  refine fun h => h.set_buffer ?_ (.inr (by rw [inFlight]; nofun))
  rintro r' p'' ⟨⟩
  exact ⟨p, inFlight⟩

theorem exposureMidpoint (s : State) : KeepsAccounts s (exposureMidpoint s) := by
  unfold Machine.exposureMidpoint
  split
  case h_1 phase => exact ⟨nextPhase phase _⟩
  all_goals exact refl s

theorem exposureEnd (s : State) : KeepsAccounts s (exposureEnd s) := by
  unfold Machine.exposureEnd
  split
  case h_1 phase => exact ⟨nextPhase phase _⟩
  all_goals exact refl s

/-! ### Renders (R49, R50, R68) -/

/-- The test of R49: a render that starts has the rows of its own take list. -/
theorem tryRenderStart (s : State) : KeepsAccounts s (tryRenderStart s) where
  accounts h := by
    unfold Machine.tryRenderStart
    split
    case isFalse => exact h
    case isTrue streaming =>
      split
      case h_1 i rest _ _ =>
        split
        case h_1 f ready =>
          rw [startRender_eq]
          exact h.render streaming ready f rfl (rowsAccounted_renderStart _ _ _ rfl rfl)
        all_goals exact h
      all_goals exact h

/-- The buffer of a render that completes leaves RENDERING once GEO is idle (R50). -/
theorem releaseBuffer (i : BufferId) (f : Frame) {s : State} (idle : s.geo = .idle) :
    KeepsAccounts s (releaseBuffer i f s) where
  accounts h := by
    rw [releaseBuffer_eq]
    cases s.fsq.holdMark
    · exact h.set_buffer nofun (.inl idle)
    · exact h.set_buffer nofun (.inl idle)

/-- A render completes: GEO is idle, and another may start. -/
theorem finishRender {w : RenderWork} {f : Frame} {s : State} {g : Geo} {c : Cvt}
    (h : RenderStands s.fsq.opState s.fsq.buffers g c) : Accounts (finishRender w f s) := by
  have reported (u : State) : KeepsAccounts u (reportPhaseErrors u) :=
    (SameCapture.reportPhaseErrors u).keepsAccounts (reportPhaseErrors_cvt u)
  have raised (i : ControlItem) (u : State) : KeepsAccounts u (raise i u) := {}
  refine (stopTest _).accounts ((tryRenderStart _).accounts ((reported _).accounts ((raised _ _).accounts
    ((releaseBuffer w.buffer f (s := { s with
      ilc := (s.ilc.onStatistics w.context.frameNumber w.stats w.context.trims).1, geo := .idle }) rfl).accounts ?_))))
  exact h.noRender Geo.idle_ne_render

theorem rowCompletion (s : State) : KeepsAccounts s (rowCompletion s) where
  accounts h := by
    unfold Machine.rowCompletion
    split
    case h_1 w geo =>
      split
      case h_2 => exact h
      case h_1 item f row _ =>
        rw [Accounts, geo] at h
        unfold completeRow
        dsimp only
        generalize renderRow w.context f.samples item.position = pixels
        split
        case isTrue => exact finishRender (g := .render w) (c := s.cvt) (by rw [handOn_fsq]; exact h)
        case isFalse =>
          have next := (h.accounted w rfl).handOn w.context pixels row
            (w' := { w with done := w.done + 1, stats := addStatistics w.stats pixels }) rfl rfl rfl
          rw [Accounts, handOn_fsq]
          exact h.goOn rfl next
    all_goals exact h

/-! ### Trial renders (R89, R152, R153) -/

/-- A trial row is stored: whatever GEO does then, it is no render. -/
theorem storeTrialRow (w : TrialWork) (e : RowEntry) (s : State) : KeepsAccounts s (storeTrialRow w e s) where
  accounts h := by
    rw [storeTrialRow_eq]
    split
    · exact h.noRender (Geo.trial_ne_render _)
    · exact h.noRender Geo.idle_ne_render

theorem trialRowCompletion (s : State) : KeepsAccounts s (trialRowCompletion s) := by
  unfold Machine.trialRowCompletion offerTrialRow
  split
  case h_1 =>
    split
    · split
      · exact storeTrialRow ..
      · exact ⟨fun h => h.noRender (Geo.trialWait_ne_render _ _)⟩
    · exact refl s
  all_goals exact refl s

theorem wallReportSent (s : State) : KeepsAccounts s (wallReportSent s) := by
  have resumed (u : State) : KeepsAccounts u (resumeTrial u) := by
    unfold resumeTrial
    split
    case h_1 =>
      split
      · exact storeTrialRow ..
      · exact refl u
    all_goals exact refl u
  unfold Machine.wallReportSent
  split
  · exact .trans (t := fillChanged { freeDownlink s with rws := s.rws.wallSent }) {} (resumed _)
  · exact refl s

/-! ### Readouts (R47, R60) -/

theorem streamReadout {i : BufferId} {r : ExposureRecord} {p : ExposurePhase} {s : State}
    (inFlight : s.fsq.buffers.get i = .exposing r p) (f : Frame) : KeepsAccounts s (streamReadout i f s) := by
  unfold Machine.streamReadout
  split
  · refine .trans ⟨?_⟩ (tryRenderStart _)
    exact fun h => h.endExposure inFlight nofun
  · refine .trans ⟨?_⟩ ((applyIdleCommits _).trans (stopTest _))
    exact fun h => h.endExposure inFlight nofun

/-- The last readout of a calibration ends CALIBRATING: its exposure was the only one in flight, and no render was. -/
theorem calibrationReadout {i : BufferId} {r : ExposureRecord} {p : ExposurePhase} {s : State}
    (inFlight : s.fsq.buffers.get i = .exposing r p) (kind : r.kind = .calibration) (rows : List (List Nat)) :
    KeepsAccounts s (calibrationReadout r rows { s with fsq := { s.fsq with buffers := s.fsq.buffers.set i .free } }) := by
  unfold Machine.calibrationReadout
  dsimp only
  split
  case isTrue =>
    refine ⟨fun h => accounts_setOpState.mpr ?_⟩
    obtain ⟨calibrating, alone⟩ := h.calibration i r p inFlight kind
    have noRender := h.no_render (by rw [calibrating]; nofun) (by rw [calibrating]; nofun)
    refine (h.endExposure inFlight (v := .free) nofun).changeState (fun _ j => ?_) fun w geo => absurd geo (noRender w)
    rw [Buffers.get_set]
    split
    · rfl
    · next other => exact alone j other
  case isFalse =>
    refine .trans ⟨?_⟩ (applyIdleCommits _)
    exact fun h => h.endExposure inFlight nofun

theorem readoutCompletion (raw : List (List Sample)) (s : State) : KeepsAccounts s (readoutCompletion raw s) := by
  unfold Machine.readoutCompletion
  split
  case h_1 phase =>
    have inFlight := Buffers.get_of_exposure phase
    dsimp only
    split
    · exact streamReadout inFlight _
    · refine .trans ⟨?_⟩ ((applyIdleCommits _).trans ((tryRenderStart _).trans (stopTest _)))
      exact fun h => h.endExposure inFlight nofun
    · next kind => exact calibrationReadout inFlight kind _
    · refine .trans ⟨?_⟩ (.trans (applyIdleCommits _) {})
      exact fun h => h.endExposure inFlight nofun
  all_goals exact refl s

/-! ### Commands (R6, R35, R37, R38, R40, R51 to R53, R152) -/

/-- UNCONFIGURED and IDLE are left with no CALIBRATION exposure and no render in flight. -/
theorem leaveRest {s u : State} {op : OpState} (buffers : u.fsq.buffers = s.fsq.buffers := by rfl)
    (geo : u.geo = s.geo := by rfl) (cvt : u.cvt = s.cvt := by rfl)
    (resting : s.fsq.opState = .unconfigured ∨ s.fsq.opState = .idle) : KeepsAccounts s (setOpState op u) where
  accounts h := by
    rw [accounts_setOpState, buffers, geo, cvt]
    refine h.changeState (fun calibrating => ?_) fun w geo => ?_
    · simp [calibrating] at resting
    · rcases resting with resting | resting
      all_goals exact absurd geo (h.no_render (by rw [resting]; nofun) (by rw [resting]; nofun) w)

/-- STRIP clears coverage in IDLE, where no render is in flight (R6, R8). -/
theorem cmdStrip (r : StripFields) (s : State) : KeepsAccounts s (cmdStrip r s).1 := by
  unfold Machine.cmdStrip
  split
  case isTrue => exact refl s
  case isFalse idle =>
    rw [not_not] at idle
    split
    · exact refl s
    · exact ⟨fun h => h.noRender (h.no_render (by rw [idle]; nofun) (by rw [idle]; nofun))⟩

theorem cmdSensor (r : SensorFields) (s : State) : KeepsAccounts s (cmdSensor r s).1 := by
  unfold Machine.cmdSensor
  split
  · exact refl s
  · split
    · exact refl s
    · dsimp only
      split
      · exact refl s
      · split
        · exact refl s
        · dsimp only
          split
          · next unconfigured => exact leaveRest (resting := .inl unconfigured)
          · exact {}

theorem cmdCalibrate (s : State) : KeepsAccounts s (cmdCalibrate s).1 := by
  unfold Machine.cmdCalibrate
  split_ifs with idle
  · exact refl s
  · exact refl s
  · dsimp only
    exact leaveRest (resting := .inr (not_not.mp idle))

theorem cmdStart (s : State) : KeepsAccounts s (cmdStart s).1 := by
  unfold Machine.cmdStart
  split_ifs with idle
  case neg =>
    dsimp only
    exact leaveRest (resting := .inr (not_not.mp idle))
  all_goals exact refl s

theorem stopCalibration {s : State} (calibrating : s.fsq.opState = .calibrating) :
    KeepsAccounts s (stopCalibration s) where
  accounts h := by
    rw [stopCalibration_eq]
    refine accounts_setOpState.mpr ?_
    have noRender := h.no_render (by rw [calibrating]; nofun) (by rw [calibrating]; nofun)
    have dark (i : BufferId) : ((s.fsq.buffers.map Buffer.abandonExposure).get i).exposing? = none := by
      rw [Buffers.get_map, Buffer.abandonExposure_exposing?]
    have abandoned : RenderStands s.fsq.opState (s.fsq.buffers.map Buffer.abandonExposure) s.geo s.cvt :=
      h.of_buffers (fun i r p inFlight => by have none := dark i; rw [inFlight] at none; cases none)
        fun w geo => absurd geo (noRender w)
    exact abandoned.changeState (fun _ i => by rw [dark i]; rfl) fun w geo => absurd geo (noRender w)

/-- STOP leaves the render in flight its buffer (R38). -/
theorem stopStream {s : State} (streaming : s.fsq.opState = .streaming) : KeepsAccounts s (stopStream s) := by
  refine .trans ⟨fun h => accounts_setOpState.mpr ?_⟩ (stopTest _)
  have discarded : RenderStands s.fsq.opState (s.fsq.buffers.map Buffer.discardReady) s.geo s.cvt := by
    refine h.of_buffers (fun i r p inFlight => ⟨p, ?_⟩) fun w _ rendering => ?_
    · rwa [Buffers.get_map, ← Buffer.exposing?_eq_some_iff, Buffer.discardReady_exposing?,
        Buffer.exposing?_eq_some_iff] at inFlight
    · rwa [Buffers.get_map, Buffer.discardReady_rendering?]
  exact discarded.changeState (by rw [streaming]; nofun) fun _ _ => .inr rfl

theorem cmdStop (s : State) : KeepsAccounts s (cmdStop s).1 := by
  unfold Machine.cmdStop
  split
  case h_3 calibrating => exact stopCalibration calibrating
  case h_4 streaming => exact stopStream streaming
  all_goals exact refl s

theorem cmdHold (s : State) : KeepsAccounts s (cmdHold s).1 := by
  unfold Machine.cmdHold
  dsimp only
  split
  case h_4 => split_ifs <;> exact {}
  case h_5 idle =>
    split_ifs
    · exact refl s
    · split
      · next free => exact startExposure _ (Buffers.get_of_freeBuffer free) nofun (by rw [idle]; nofun)
      · exact refl s
  all_goals exact refl s

theorem cmdRelease (s : State) : KeepsAccounts s (cmdRelease s).1 := by
  unfold Machine.cmdRelease
  split
  · exact refl s
  · split
    · next held =>
      split
      · exact refl s
      · exact ⟨fun h => h.set_buffer nofun (.inr (by rw [Buffers.get_of_heldFrame held]; nofun))⟩
    · split_ifs <;> exact {}

theorem cmdRerender (s : State) : KeepsAccounts s (cmdRerender s).1 := by
  unfold Machine.cmdRerender
  split
  · exact refl s
  · split
    · exact refl s
    · split
      · exact refl s
      · split
        · exact refl s
        · split
          · exact refl s
          · exact ⟨fun h => h.noRender (Geo.trial_ne_render _)⟩

/-- With every buffer FREE and GEO idle there is nothing to account for. -/
theorem allFree (op : OpState) (c : Cvt) : RenderStands op ⟨.free, .free, .free⟩ .idle c where
  calibration i r p inFlight := by cases i <;> cases inFlight
  stream w geo := absurd geo (Geo.idle_ne_render w)
  accounted w geo := absurd geo (Geo.idle_ne_render w)

theorem resetStream (s : State) : KeepsAccounts s (resetStream s) where
  accounts _ := accounts_setOpState.mpr (allFree _ _)

theorem fullReset (s : State) : KeepsAccounts s (fullReset s) where
  accounts _ := allFree _ _

theorem runCommand (tag : Byte) (c : Command) (s : State) : KeepsAccounts s (runCommand tag c s) := by
  have answered {r : State × Answer} (h : KeepsAccounts s r.1) : KeepsAccounts s (answer tag r) := h.trans {}
  by_cases strip : ∃ r, c = .strip r
  · obtain ⟨r, rfl⟩ := strip
    exact answered (cmdStrip r s)
  · rw [not_exists] at strip
    cases reaches : reachesCapture c with
    | false =>
      exact (SameCapture.runCommand tag c s reaches).keepsAccounts (runCommand_cvt tag c s reaches strip)
    | true =>
      cases c with
      | sensor r => exact answered (cmdSensor r s)
      | light r => exact answered (by unfold cmdLight; split <;> exact {})
      | dark n => exact answered (by unfold cmdDark; split <;> exact {})
      | calibrate => exact answered (cmdCalibrate s)
      | start => exact answered (cmdStart s)
      | stop => exact answered (cmdStop s)
      | relight => exact answered (by unfold cmdRelight; split <;> exact {})
      | hold => exact answered (cmdHold s)
      | release => exact answered (cmdRelease s)
      | rerender => exact answered (cmdRerender s)
      | resetStream => exact answered (resetStream s)
      | resetFull => exact answered (fullReset s)
      | _ => cases reaches

theorem markerReportSent (s : State) : KeepsAccounts s (markerReportSent s) := by
  unfold Machine.markerReportSent
  split <;> exact {}

theorem previewTileSent (s : State) : KeepsAccounts s (previewTileSent s) := by
  unfold Machine.previewTileSent
  split <;> exact {}

end KeepsAccounts

/-! ### Every step -/

theorem keepsAccounts_keptByParts : KeptByParts KeepsAccounts where
  refl := .refl
  trans := .trans
  link _ _ := {}
  pending _ _ := {}
  tick _ := {}
  settle s := (SameCapture.settle s).keepsAccounts (settle_cvt s)
  runCommand := .runCommand
  fullReset := .fullReset
  timerExpiry := .timerExpiry
  exposureMidpoint := .exposureMidpoint
  exposureEnd := .exposureEnd
  readoutCompletion := .readoutCompletion
  rowCompletion := .rowCompletion
  trialRowCompletion := .trialRowCompletion
  wallReportSent := .wallReportSent
  markerReportSent := .markerReportSent
  previewTileSent := .previewTileSent
  transition _ _ _ := {}
  closeWindow _ := {}
  receiveLine _ _ := {}
  gatherLine _ _ := {}
  lineSent _ := {}
  advisoryRepeat _ := {}

/-- Settles O60: with coherent buffers the render in flight stands on its buffer and its operating state, and every part of a
step keeps it so, its rows accounted for. -/
theorem everyStepKeepsTheTakesAccounted : Obligations.EveryStepKeepsTheTakesAccounted := by
  intro s t buffers takes h
  have kept := (keepsAccounts_keptByParts.step s t h).accounts (accounts_of_coherent buffers takes)
  exact (takesAccounted_iff t).mpr kept.accounted

end Sys2Proof.Machine

/-! # Bore centre following -/

namespace Sys2Proof.Machine

-- With it on, the many small proofs start more threads than the check's limits allow.
set_option Elab.async false

/-! ## The CENTRE record (R91, R92) -/

theorem exec_centreRecord_at_once (tag : Byte) (r : CentreFields) (s : State) (ready : Ready s) :
    exec (.centreRecord tag r) s
      = .next (replied tag (cmdCentre r s).2.code (cmdCentre r s).2.payload (cmdCentre r s).1) :=
  congrArg Host.Outcome.next (arrive_answered ready rfl)

/-- A follower switch of 0 or 1 is read as OFF or ON, any other as none. -/
theorem followOf_eq (b : Byte) : followOf b = if b ≠ 0 ∧ b ≠ 1 then none else some (decide (b = 1)) := by
  unfold followOf
  by_cases off : b = 0
  · subst off; rfl
  · by_cases on : b = 1
    · subst on; rfl
    · rw [if_neg off, if_neg on, if_pos ⟨off, on⟩]

/-- Settles O11, by the three answers of the CENTRE record: refused, an ill-formed switch, installed. -/
theorem centreRecordIsClampedAndInstalled : Obligations.CentreRecordIsClampedAndInstalled := by
  intro tag r s ready
  dsimp only
  rw [exec_centreRecord_at_once tag r s ready]
  unfold cmdCentre
  by_cases unconfigured : s.fsq.opState = .unconfigured
  · simp only [if_pos unconfigured]; rfl
  · by_cases bad : r.follow ≠ 0 ∧ r.follow ≠ 1
    · simp only [if_neg unconfigured, followOf_eq, if_pos bad]; rfl
    · simp only [if_neg unconfigured, followOf_eq, if_neg bad, Answer.okOrClamped_eq]

/-! ## The grid and its dark places (R94, R95) -/

/-- The place of index `i` of the grid along one axis (R94). -/
theorem mem_gridPlaces (centre : Int) (size p : Nat) :
    p ∈ gridPlaces centre size ↔ (∃ i : Nat, i < 64 ∧ (p : Int) = centre / 16 - 128 + 4 * i) ∧ p < size := by
  simp only [gridPlaces, List.mem_filterMap, List.mem_range, Option.ite_none_right_eq_some, Option.some.injEq]
  constructor
  · rintro ⟨i, hi, inside, rfl⟩
    exact ⟨⟨i, hi, by omega⟩, by omega⟩
  · rintro ⟨⟨i, hi, at_i⟩, inside⟩
    exact ⟨i, hi, by omega, by omega⟩

/-- The grid's places lie four apart, so no two indices give the same one. -/
theorem gridPlaces_nodup (centre : Int) (size : Nat) : (gridPlaces centre size).Nodup := by
  refine List.Nodup.filterMap (fun i j p at_i at_j => ?_) List.nodup_range
  simp only [Option.mem_def, Option.ite_none_right_eq_some, Option.some.injEq] at at_i at_j
  omega

theorem isDark_iff (threshold v : Nat) : isDark threshold v = true ↔ v < threshold ∧ v ≠ 4095 := by
  simp [isDark]

theorem mem_darkPlaces (b : Bcf) (f : Frame) (x y : Nat) :
    (x, y) ∈ darkPlaces b f ↔
      x ∈ gridPlaces b.currentX f.record.width ∧ y ∈ gridPlaces b.currentY f.record.height
        ∧ sampleAt f.samples x y < b.centre.threshold ∧ sampleAt f.samples x y ≠ 4095 := by
  simp only [darkPlaces, List.mem_flatMap, List.mem_map, List.mem_filter, isDark_iff, Prod.mk.injEq]
  constructor
  · rintro ⟨_, in_y, _, ⟨in_x, dark⟩, rfl, rfl⟩
    exact ⟨in_x, in_y, dark⟩
  · rintro ⟨in_x, in_y, dark⟩
    exact ⟨y, in_y, x, ⟨in_x, dark⟩, rfl, rfl⟩

/-- Each row of the grid holds each of its places once, and two rows share none. -/
theorem darkPlaces_nodup (b : Bcf) (f : Frame) : (darkPlaces b f).Nodup := by
  refine List.nodup_flatMap.mpr ⟨fun y _ => ?_, (gridPlaces_nodup ..).imp fun {y y'} apart => ?_⟩
  · exact ((gridPlaces_nodup ..).filter _).map (Prod.mk_left_injective y)
  · rintro ⟨x, z⟩ in_y in_y'
    simp only [List.mem_map, Prod.mk.injEq] at in_y in_y'
    obtain ⟨_, _, _, rfl⟩ := in_y
    obtain ⟨_, _, _, rfl⟩ := in_y'
    exact apart rfl

/-! ## The scan (R93, R96 to R98) -/

theorem Bcf.scan_off (b : Bcf) (f : Frame) (off : b.centre.follow = false) :
    b.scan f = ({ b with lastScan := .off f.record.frameNumber }, false) := by
  simp [Bcf.scan, off]

theorem Bcf.scan_held (b : Bcf) (f : Frame) (on : b.centre.follow = true)
    (few : (darkPlaces b f).length < b.centre.mincount) :
    b.scan f = ({ b with lastScan := .held f.record.frameNumber (darkPlaces b f).length }, true) := by
  simp [Bcf.scan, on, Nat.not_le.mpr few]

/-- With enough dark places each component follows their centroid. -/
theorem Bcf.scan_updated (b : Bcf) (f : Frame) (on : b.centre.follow = true)
    (enough : b.centre.mincount ≤ (darkPlaces b f).length) :
    b.scan f =
      let mx := centroid ((darkPlaces b f).map (·.1)).sum (darkPlaces b f).length
      let my := centroid ((darkPlaces b f).map (·.2)).sum (darkPlaces b f).length
      ({ b with
          ox := newOffset b.ox mx b.currentX b.centre.maxoff
          oy := newOffset b.oy my b.currentY b.centre.maxoff
          lastScan := .updated f.record.frameNumber (darkPlaces b f).length mx my }, false) := by
  simp [Bcf.scan, on, enough]

/-- Settles O40: the dark places from the grid along each axis, and the scan by the switch and the count. -/
theorem scanMovesOrHoldsTheOffset : Obligations.ScanMovesOrHoldsTheOffset := by
  intro b f
  refine ⟨darkPlaces_nodup b f, fun x y => ?_, b.scan_off f, b.scan_held f, b.scan_updated f⟩
  rw [mem_darkPlaces, mem_gridPlaces, mem_gridPlaces]
  constructor
  · rintro ⟨⟨⟨i, hi, column⟩, insideX⟩, ⟨⟨k, hk, row⟩, insideY⟩, dark⟩
    exact ⟨⟨i, k, hi, hk, column, row⟩, insideX, insideY, dark⟩
  · rintro ⟨⟨i, k, hi, hk, column, row⟩, insideX, insideY, dark⟩
    exact ⟨⟨⟨i, hi, column⟩, insideX⟩, ⟨⟨k, hk, row⟩, insideY⟩, dark⟩

end Sys2Proof.Machine

/-! # Illumination control -/

namespace Sys2Proof.Machine

-- With it on, the many small proofs start more threads than the check's limits allow.
set_option Elab.async false

/-! ## The cap rule and the steps (R113, R114, R116) -/

theorem capRule_within {cap : Nat} {drives : List Nat} (h : drives.sum ≤ cap) : capRule cap drives = drives :=
  if_neg (not_lt.mpr h)

theorem capRule_above {cap : Nat} {drives : List Nat} (h : cap < drives.sum) :
    capRule cap drives = drives.map (fun d => d * cap / drives.sum) :=
  if_pos h

/-- The cap rule raises no drive. -/
theorem capRule_getD_le (cap : Nat) (drives : List Nat) (k : Nat) : (capRule cap drives).getD k 0 ≤ drives.getD k 0 := by
  rcases le_or_gt drives.sum cap with within | above
  · rw [capRule_within within]
  · have scaled : (capRule cap drives).getD k 0 = drives.getD k 0 * cap / drives.sum := by
      rw [capRule_above above]
      simpa using List.getD_map (l := drives) (d := 0) (n := k) (fun d => d * cap / drives.sum)
    rw [scaled]
    exact Nat.div_le_of_le_mul (by rw [Nat.mul_comm]; exact Nat.mul_le_mul_right _ above.le)

theorem quarterStep_self (cur : Nat) : quarterStep cur cur = cur := by simp [quarterStep]

theorem quarterStep_up {cur target : Nat} (h : cur < target) :
    quarterStep cur target = cur + max 1 ((target - cur) / 4) :=
  if_pos h

theorem quarterStep_down {cur target : Nat} (h : target < cur) :
    quarterStep cur target = cur - max 1 ((cur - target) / 4) := by
  rw [quarterStep, if_neg h.asymm, if_pos h]

theorem clampNat_eq_max_min (v lo hi : Nat) (h : lo ≤ hi) : clampNat v lo hi = max lo (min v hi) := by
  unfold clampNat
  split_ifs <;> omega

/-- Settles O41: the cap rule within and above the cap, and the step by the side of its target. -/
theorem capRuleAndQuarterStep : Obligations.CapRuleAndQuarterStep := by
  refine ⟨fun cap drives => ⟨capRule_sum_le cap drives, capRule_within, capRule_above, capRule_getD_le cap drives⟩,
    fun cur target => ⟨?equal, ?up, ?down⟩, ?clamp, clampNat_eq_max_min⟩
  case clamp => exact fun v lo hi h => (clampInt_eq_max_min v lo hi h).trans (by rw [min_comm])
  case equal =>
    rintro rfl
    exact quarterStep_self cur
  case up =>
    intro below
    have step := quarterStep_up below
    exact ⟨step, by omega, by omega⟩
  case down =>
    intro above
    have step := quarterStep_down above
    exact ⟨by omega, by omega, by omega⟩

/-! ## Lists of sectors -/

/-- A list is read off its indices. -/
theorem eq_map_range_getD {α : Type} {l : List α} {n : Nat} (d : α) (h : l.length = n) :
    l = (List.range n).map (fun k => l.getD k d) := by
  subst h
  refine List.ext_getElem (by simp) fun k hk _ => ?_
  simp [hk]

/-- What an update measures of one sector, the capped mark apart (R111, R112). -/
def measuredSector (r : LightRecord) (st : SectorStat) (trim drive : Nat) : SectorUpdate :=
  { measureSector r st trim with pinnedHigh := pinnedHigh r.t (measureSector r st trim) drive }

theorem measureSectors_map (r : LightRecord) (st : Nat → SectorStat) (trim drive : Nat → Nat) (l : List Nat) :
    measureSectors r (l.map st) (l.map trim) (l.map drive)
      = l.map (fun k => measuredSector r (st k) (trim k) (drive k)) := by
  simp only [measureSectors, List.zipWith_map, List.zipWith_self]
  rfl

theorem markCapped_map (u : Nat → SectorUpdate) (before after : Nat → Nat) (l : List Nat) :
    markCapped (l.map u) (l.map before) (l.map after)
      = l.map (fun k => { u k with capped := decide (after k < before k) }) := by
  simp only [markCapped, List.zip, List.zipWith_map, List.zipWith_self]

/-! ## One sector through an update (R111 to R116) -/

section Sector

variable (r : LightRecord) (st : SectorStat) (trim drive : Nat)

/-- A sector with count 0 is settled, without means and marks. -/
theorem measuredSector_clipped (h : st.count = 0) :
    measuredSector r st trim drive = ⟨0, st.saturated, none, none, true, false, false⟩ := by
  simp [measuredSector, measureSector, pinnedHigh, h]

theorem measuredSector_seen (h : st.count ≠ 0) :
    measuredSector r st trim drive =
      { count := st.count
        saturated := st.saturated
        mean := some (sectorMean st)
        post := some (postMean (sectorMean st) trim)
        settled := isSettled r (postMean (sectorMean st) trim)
        pinnedHigh := decide (¬ st.count < st.saturated * 64 ∧ 1023 < rawQuotient r.t drive (sectorMean st))
        capped := false } := by
  simp [measuredSector, measureSector, pinnedHigh, saturatedSector, h, ← decide_not, Bool.decide_and]

theorem measuredSector_post :
    (measuredSector r st trim drive).post = if st.count = 0 then none else some (postMean (sectorMean st) trim) := by
  by_cases h : st.count = 0
  · rw [measuredSector_clipped r st trim drive h, if_pos h]
  · rw [measuredSector_seen r st trim drive h, if_neg h]

theorem measuredSector_settled :
    (measuredSector r st trim drive).settled = true ↔
      st.count = 0 ∨ postMean (sectorMean st) trim ≤ r.t + r.tol ∧ r.t ≤ postMean (sectorMean st) trim + r.tol := by
  by_cases h : st.count = 0
  · simp [measuredSector_clipped r st trim drive h, h]
  · simp [measuredSector_seen r st trim drive h, h, isSettled]

/-- The whole record of a sector, with its capped mark (R118). -/
theorem measuredSector_record (capped : Prop) [Decidable capped] :
    { measuredSector r st trim drive with capped := decide capped } =
      { count := st.count
        saturated := st.saturated
        mean := if st.count = 0 then none else some (sectorMean st)
        post := if st.count = 0 then none else some (postMean (sectorMean st) trim)
        settled := decide (st.count = 0 ∨
          postMean (sectorMean st) trim ≤ r.t + r.tol ∧ r.t ≤ postMean (sectorMean st) trim + r.tol)
        pinnedHigh := decide (st.count ≠ 0 ∧ ¬ st.count < st.saturated * 64
          ∧ 1023 < rawQuotient r.t drive (sectorMean st))
        capped := decide capped : SectorUpdate } := by
  by_cases h : st.count = 0
  · simp [measuredSector_clipped r st trim drive h, h]
  · simp [measuredSector_seen r st trim drive h, h, isSettled]

/-- The drive after its step, by what the render saw of the sector (R112, R113). -/
theorem steppedDrive_measuredSector :
    steppedDrive r.t (measuredSector r st trim drive) drive =
      if st.count = 0 then drive
      else quarterStep drive
        (if st.count < st.saturated * 64 then drive / 2
          else clampNat (clampNat (rawQuotient r.t drive (sectorMean st)) (drive / 2) (2 * drive)) 16 1023) := by
  by_cases h : st.count = 0
  · simp [measuredSector_clipped r st trim drive h, h, steppedDrive]
  · simp [measuredSector_seen r st trim drive h, h, steppedDrive, driveTarget, saturatedSector]

/-- The trim after its step: only a sector held back, at the top of its drive or by the cap, is led above 4096 (R115,
R116). -/
theorem steppedTrim_measuredSector (cur : Nat) (capped : Prop) [Decidable capped] :
    steppedTrim r.t { measuredSector r st trim drive with capped := decide capped } cur =
      if st.count = 0 then cur
      else quarterStep cur
        (if (¬ st.count < st.saturated * 64 ∧ 1023 < rawQuotient r.t drive (sectorMean st) ∨ capped)
            ∧ sectorMean st < r.t
          then clampNat (r.t * 4096 / sectorMean st) 4096 16383 else 4096) := by
  by_cases h : st.count = 0
  · simp [measuredSector_clipped r st trim drive h, h, steppedTrim]
  · simp [measuredSector_seen r st trim drive h, h, steppedTrim, trimTarget]

end Sector

/-! ## The lock count (R117) -/

@[simp] theorem Ilc.countLock_trims (i : Ilc) (clean : Bool) : (i.countLock clean).trims = i.trims := by
  unfold Ilc.countLock
  split <;> (try split) <;> rfl

@[simp] theorem Ilc.countLock_stale (i : Ilc) (clean : Bool) : (i.countLock clean).stale = i.stale := by
  unfold Ilc.countLock
  split <;> (try split) <;> rfl

@[simp] theorem Ilc.countLock_lastUpdate (i : Ilc) (clean : Bool) : (i.countLock clean).lastUpdate = i.lastUpdate := by
  unfold Ilc.countLock
  split <;> (try split) <;> rfl

/-- The loop state and the counts before an update, after it, and whether it was clean: the table of R117. -/
structure FollowsLockTable (i : Ilc) (clean : Prop) (j : Ilc) : Prop where
  locks : i.loop = .seeking → clean → 3 ≤ i.clean + 1 → j.loop = .locked ∧ j.clean = 0 ∧ j.unsettled = 0
  counts : i.loop = .seeking → clean → i.clean + 1 < 3 →
    j.loop = .seeking ∧ j.clean = i.clean + 1 ∧ j.unsettled = i.unsettled
  restarts : i.loop = .seeking → ¬ clean → j.loop = .seeking ∧ j.clean = 0 ∧ j.unsettled = i.unsettled
  stays : i.loop = .locked → clean → j.loop = .locked ∧ j.clean = i.clean ∧ j.unsettled = 0
  unlocks : i.loop = .locked → ¬ clean → 2 ≤ i.unsettled + 1 → j.loop = .seeking ∧ j.clean = 0 ∧ j.unsettled = 0
  forgives : i.loop = .locked → ¬ clean → i.unsettled + 1 < 2 →
    j.loop = .locked ∧ j.clean = i.clean ∧ j.unsettled = i.unsettled + 1

/-- The lock count reads the loop state and the two counts, which the stages before it leave as they were. -/
theorem Ilc.countLock_followsLockTable {i j : Ilc} (loop : j.loop = i.loop) (cleans : j.clean = i.clean)
    (unsettled : j.unsettled = i.unsettled) (clean : Bool) : FollowsLockTable i (clean = true) (j.countLock clean) where
  locks seeking isClean third := by simp [countLock, loop, cleans, seeking, isClean, third]
  counts seeking isClean early := by simp [countLock, loop, cleans, unsettled, seeking, isClean, Nat.not_le.mpr early]
  restarts seeking unclean := by simp [countLock, loop, unsettled, seeking, unclean]
  stays locked isClean := by simp [countLock, loop, cleans, locked, isClean]
  unlocks locked unclean second := by simp [countLock, loop, unsettled, locked, unclean, second]
  forgives locked unclean first := by
    simp [countLock, loop, cleans, unsettled, locked, unclean, Nat.not_le.mpr first]

/-! ## The update as a whole (R110 to R118) -/

namespace Ilc

variable (i : Ilc) (frameNumber : Nat) (stats : List SectorStat) (latched : List Nat)

theorem onStatistics_dark (dark : i.loop = .dark) :
    i.onStatistics frameNumber stats latched = (i, List.replicate 8 none) :=
  if_pos dark

theorem onStatistics_stale (lit : i.loop ≠ .dark) (stale : 0 < i.stale) :
    i.onStatistics frameNumber stats latched = ({ i with stale := i.stale - 1 }, List.replicate 8 none) := by
  rw [onStatistics, if_neg lit, if_pos stale]

theorem onStatistics_fresh (lit : i.loop ≠ .dark) (fresh : i.stale = 0) :
    i.onStatistics frameNumber stats latched =
      (i.update frameNumber stats latched, (measureSectors i.light stats latched i.drives).map (·.post)) := by
  rw [onStatistics, if_neg lit, if_neg (by omega)]

/-- What an update measures of sector `k`. -/
def measuredAt (k : Nat) : SectorUpdate :=
  measuredSector i.light (stats.getD k ⟨0, 0, 0⟩) (latched.getD k 0) (i.drives.getD k 0)

/-- The eight drives after their steps, before the cap. -/
def steppedDrives : List Nat :=
  (List.range 8).map (fun k => steppedDrive i.light.t (i.measuredAt stats latched k) (i.drives.getD k 0))

/-- The record of sector `k` that an update writes, with the drives it leaves. -/
def recordAt (after : List Nat) (k : Nat) : SectorUpdate :=
  { i.measuredAt stats latched k with
    capped := decide (after.getD k 0 < (i.steppedDrives stats latched).getD k 0) }

variable {i frameNumber stats latched}

theorem measureSectors_eq (hs : stats.length = 8) (ht : latched.length = 8) (hd : i.drives.length = 8) :
    measureSectors i.light stats latched i.drives = (List.range 8).map (i.measuredAt stats latched) := by
  have sectors := measureSectors_map i.light (stats.getD · ⟨0, 0, 0⟩) (latched.getD · 0) (i.drives.getD · 0)
    (List.range 8)
  rwa [← eq_map_range_getD _ hs, ← eq_map_range_getD _ ht, ← eq_map_range_getD _ hd] at sectors

theorem zipWith_steppedDrive_eq (hd : i.drives.length = 8) :
    List.zipWith (steppedDrive i.light.t) ((List.range 8).map (i.measuredAt stats latched)) i.drives
      = i.steppedDrives stats latched := by
  conv_lhs => rw [eq_map_range_getD 0 hd, List.zipWith_map, List.zipWith_self]
  rfl

theorem markCapped_eq (after : List Nat) (ha : after.length = 8) :
    markCapped ((List.range 8).map (i.measuredAt stats latched)) (i.steppedDrives stats latched) after
      = (List.range 8).map (i.recordAt stats latched after) := by
  have sectors := markCapped_map (i.measuredAt stats latched) ((i.steppedDrives stats latched).getD · 0) (after.getD · 0)
    (List.range 8)
  rwa [← eq_map_range_getD _ (by simp [steppedDrives]), ← eq_map_range_getD _ ha] at sectors

/-- An update, stage by stage. -/
theorem update_eq (hs : stats.length = 8) (ht : latched.length = 8) (hd : i.drives.length = 8) :
    let after := capRule i.light.cap (i.steppedDrives stats latched)
    let records := (List.range 8).map (i.recordAt stats latched after)
    i.update frameNumber stats latched =
      ({ i with
          drives := after
          trims := List.zipWith (steppedTrim i.light.t) records i.trims
          lastUpdate := some ⟨frameNumber, records⟩ }).countLock (records.all (·.settled)) := by
  have eight : (capRule i.light.cap (i.steppedDrives stats latched)).length = 8 := by simp [steppedDrives]
  simp only [update, measureSectors_eq hs ht hd, zipWith_steppedDrive_eq hd, markCapped_eq _ eight]

section Update

variable (hs : stats.length = 8) (ht : latched.length = 8) (hd : i.drives.length = 8)
include hs ht hd

theorem update_drives :
    (i.update frameNumber stats latched).drives = capRule i.light.cap (i.steppedDrives stats latched) := by
  simp [update_eq hs ht hd]

theorem update_trims (hr : i.trims.length = 8) :
    (i.update frameNumber stats latched).trims = (List.range 8).map (fun k =>
      steppedTrim i.light.t (i.recordAt stats latched (i.update frameNumber stats latched).drives k)
        (i.trims.getD k 0)) := by
  rw [update_drives hs ht hd, update_eq hs ht hd, countLock_trims]
  conv_lhs => rw [eq_map_range_getD 0 hr, List.zipWith_map, List.zipWith_self]

theorem update_lastUpdate :
    (i.update frameNumber stats latched).lastUpdate =
      some ⟨frameNumber, (List.range 8).map (i.recordAt stats latched (i.update frameNumber stats latched).drives)⟩ := by
  rw [update_drives hs ht hd, update_eq hs ht hd, countLock_lastUpdate]

theorem update_followsLockTable :
    FollowsLockTable i (∀ k, k < 8 → (i.measuredAt stats latched k).settled = true)
      (i.update frameNumber stats latched) := by
  have allSettled (after : List Nat) : ((List.range 8).map (i.recordAt stats latched after)).all (·.settled) = true ↔
      ∀ k, k < 8 → (i.measuredAt stats latched k).settled = true := by
    simp [recordAt]
  rw [update_eq hs ht hd, ← allSettled (capRule i.light.cap (i.steppedDrives stats latched))]
  apply countLock_followsLockTable <;> rfl

end Update

@[simp] theorem update_stale : (i.update frameNumber stats latched).stale = i.stale := by
  simp [update]

end Ilc

/-- Settles O42, by the three cases of R110; an update goes stage by stage, each sector by what the render saw of it. -/
theorem illuminationUpdateFollowsItsStages : Obligations.IlluminationUpdateFollowsItsStages := by
  intro i frameNumber stats latched
  refine ⟨i.onStatistics_dark frameNumber stats latched, i.onStatistics_stale frameNumber stats latched,
    fun lit fresh hs ht hd hr => ?_⟩
  rw [i.onStatistics_fresh frameNumber stats latched lit fresh]
  intro count mean post drive saturated quotient target stepped held settled clean
  have steps : i.steppedDrives stats latched = stepped :=
    List.map_congr_left fun k _ => steppedDrive_measuredSector ..
  have cleanly : (∀ k, k < 8 → (i.measuredAt stats latched k).settled = true) ↔ clean :=
    forall₂_congr fun k _ => measuredSector_settled ..
  have lock := Ilc.update_followsLockTable (frameNumber := frameNumber) hs ht hd
  rw [cleanly] at lock
  refine ⟨?drives, ?trims, ?means, ?record, lock.locks, lock.counts, lock.restarts, lock.stays, lock.unlocks,
    lock.forgives, i.update_light .., Ilc.update_stale.trans fresh⟩
  case drives => rw [Ilc.update_drives hs ht hd, steps]
  case trims =>
    rw [Ilc.update_trims hs ht hd hr]
    refine List.map_congr_left fun k _ => ?_
    rw [Ilc.recordAt, steps]
    exact steppedTrim_measuredSector ..
  case means =>
    rw [Ilc.measureSectors_eq hs ht hd, List.map_map]
    exact List.map_congr_left fun k _ => measuredSector_post ..
  case record =>
    rw [Ilc.update_lastUpdate hs ht hd]
    congr 2
    refine List.map_congr_left fun k _ => ?_
    rw [Ilc.recordAt, steps]
    exact measuredSector_record ..

end Sys2Proof.Machine

/-! # Coverage tracking: what a render start and a decision make of it, and what every step keeps of it -/

namespace Sys2Proof.Machine

-- With it on, the many small proofs start more threads than the check's limits allow.
set_option Elab.async false

/-! ## The band of a STRIP record in its ranges (R10, R30) -/

/-- A band has the rows from B0 to B1, or one fewer; without a pitch it has them all. -/
theorem band_rows_cases (r : StripRecord) (xf : Int) :
    bandMax r xf - bandMin r xf + 1 = r.b1 - r.b0 + 1 ∨ bandMax r xf - bandMin r xf + 1 = (r.b1 : Int) - r.b0 := by
  rcases Nat.eq_zero_or_pos r.p with none | some
  · left
    simp [bandMin, bandMax, none]
  · by_cases aligned : (xf + r.z0) % r.p = 0
    · exact .inl (band_rows_of_aligned r xf aligned)
    · exact .inr (band_rows_of_not_aligned r xf some aligned)

/-- A band is at the least empty, and then its last row stands just before its first. -/
theorem bandMin_le_bandMax_succ {r : StripRecord} (xf : Int) (order : r.b0 ≤ r.b1) :
    bandMin r xf ≤ bandMax r xf + 1 := by
  have rows := band_rows_cases r xf
  omega

theorem bandMax_le_bandMin_add {r : StripRecord} (xf : Int) (top : r.b1 ≤ 511) :
    bandMax r xf ≤ bandMin r xf + 511 := by
  have rows := band_rows_cases r xf
  omega

/-- With an explored span the window moves up to the band, moves down to it, or stays (R124). -/
theorem placedBase_cases {c : Cvt} {nMin nMax : Int} (span : c.span ≠ none) (short : nMax ≤ nMin + 511) :
    c.wb + 4095 < nMax ∧ placedBase c nMin nMax = nMax - 4095
      ∨ nMin < c.wb ∧ placedBase c nMin nMax = nMin
      ∨ c.wb ≤ nMin ∧ nMax ≤ c.wb + 4095 ∧ placedBase c nMin nMax = c.wb := by
  rw [placedBase_of_span c nMin nMax span]
  split_ifs <;> omega

/-! ## What a render start makes of CVT (R123) -/

section
variable (c : Cvt) (r : StripRecord) (xf : Int)

theorem Cvt.renderStart_wb : (c.renderStart r xf).cvt.wb = placedBase c (bandMin r xf) (bandMax r xf) := rfl

theorem Cvt.renderStart_ranges :
    (c.renderStart r xf).ranges =
      c.declaredRanges (bandMin r xf) (bandMax r xf) (c.renderStart r xf).cvt.prevDir := rfl

theorem Cvt.renderStart_ring :
    (c.renderStart r xf).cvt.ring =
      markGaps (c.movedRing (c.renderStart r xf).cvt.wb) (c.renderStart r xf).cvt.wb (c.renderStart r xf).ranges := rfl

theorem Cvt.renderStart_span :
    (c.renderStart r xf).cvt.span =
      clipSpan (placedBase c (bandMin r xf) (bandMax r xf)) (extendRange c.span (bandMin r xf) (bandMax r xf)) := rfl

theorem Cvt.renderStart_ever :
    (c.renderStart r xf).cvt.ever = extendRange c.ever (bandMin r xf) (bandMax r xf) := rfl

end

theorem length_rowsFromTo (lo hi : Int) : (rowsFromTo lo hi).length = (hi - lo + 1).toNat := by
  simp [rowsFromTo]

theorem Cvt.length_movedRing {c : Cvt} (whole : c.ring.length = Config.ringRows) (wb : Int) :
    (c.movedRing wb).length = Config.ringRows := by
  unfold Cvt.movedRing
  split
  · exact whole
  · rw [List.length_map, length_rowsFromTo, Config.ringRows]
    omega

theorem length_markGaps (ring : List RingEntry) (wb : Int) (ranges : List (Int × Int)) :
    (markGaps ring wb ranges).length = ring.length := List.length_mapIdx

/-! ## CVT coherent (R122, R128) -/

/-- The ring is whole, and the explored span lies inside the window and inside the ever-explored range; both are empty
together. -/
structure Cvt.Coherent (c : Cvt) : Prop where
  ring : c.ring.length = Config.ringRows
  window : ∀ r ∈ c.span, r.1 ≤ r.2 ∧ c.wb ≤ r.1 ∧ r.2 ≤ c.wb + 4095
  explored : ∀ r ∈ c.span, ∀ e ∈ c.ever, e.1 ≤ r.1 ∧ r.2 ≤ e.2
  empty : c.span = none ↔ c.ever = none

theorem coverageCoherent_iff (s : State) : CoverageCoherent s ↔ s.cvt.Coherent :=
  ⟨fun ⟨ring, window, explored, empty⟩ => ⟨ring, window, explored, empty⟩,
    fun ⟨ring, window, explored, empty⟩ => ⟨ring, window, explored, empty⟩⟩

namespace Cvt.Coherent

variable {c c' : Cvt}

/-- Only the ring's length, the window base and the two ranges count. -/
theorem of_same (h : c.Coherent) (ring : c'.ring.length = c.ring.length) (wb : c'.wb = c.wb) (span : c'.span = c.span)
    (ever : c'.ever = c.ever) : c'.Coherent where
  ring := ring.trans h.ring
  window := by rw [span, wb]; exact h.window
  explored := by rw [span, ever]; exact h.explored
  empty := by rw [span, ever]; exact h.empty

theorem of_empty (ring : c.ring.length = Config.ringRows) (span : c.span = none) (ever : c.ever = none) :
    c.Coherent where
  ring := ring
  window := by rw [span]; nofun
  explored := by rw [span]; nofun
  empty := iff_of_true span ever

theorem of_some {lo hi eLo eHi : Int} (ring : c.ring.length = Config.ringRows) (span : c.span = some (lo, hi))
    (ever : c.ever = some (eLo, eHi)) (order : lo ≤ hi) (window : c.wb ≤ lo ∧ hi ≤ c.wb + 4095)
    (explored : eLo ≤ lo ∧ hi ≤ eHi) : c.Coherent where
  ring := ring
  window := by rw [span]; rintro _ ⟨⟩; exact ⟨order, window⟩
  explored := by rw [span, ever]; rintro _ ⟨⟩ _ ⟨⟩; exact explored
  empty := by rw [span, ever]; exact iff_of_false nofun nofun

theorem reset : Cvt.reset.Coherent := of_empty List.length_replicate rfl rfl

/-- A render start with a band of at most 512 rows: the span extended over the band and clipped stays inside the window
placed over the band, and inside the ever-explored range, which is not clipped (R124, R128). -/
theorem renderStart (h : c.Coherent) {r : StripRecord} (xf : Int) (order : r.b0 ≤ r.b1) (top : r.b1 ≤ 511) :
    (c.renderStart r xf).cvt.Coherent := by
  have almost := bandMin_le_bandMax_succ xf order
  have short := bandMax_le_bandMin_add xf top
  have ring : (c.renderStart r xf).cvt.ring.length = Config.ringRows := by
    rw [Cvt.renderStart_ring, length_markGaps, Cvt.length_movedRing h.ring]
  have span := c.renderStart_span r xf
  have ever := c.renderStart_ever r xf
  have wb := c.renderStart_wb r xf
  generalize (c.renderStart r xf).cvt = t at *
  generalize bandMin r xf = nMin at *
  generalize bandMax r xf = nMax at *
  rw [← wb] at span
  cases old : c.span with
  | none =>
    rw [placedBase_of_empty_span c nMin nMax short old] at wb
    rw [old] at span
    rw [h.empty.mp old] at ever
    by_cases rows : nMin ≤ nMax
    · simp only [extendRange, if_pos rows, clipSpan] at span ever
      exact .of_some ring span ever (by omega) (by omega) (by omega)
    · simp only [extendRange, if_neg rows, clipSpan] at span ever
      exact .of_empty ring span ever
  | some f =>
    obtain ⟨lo, hi⟩ := f
    obtain ⟨⟨eLo, eHi⟩, oldEver⟩ := Option.ne_none_iff_exists'.mp (mt h.empty.mpr (by rw [old]; nofun))
    obtain ⟨ascends, inWindow⟩ := h.window (lo, hi) old
    have explored := h.explored (lo, hi) old (eLo, eHi) oldEver
    have placed := placedBase_cases (by rw [old]; nofun) short
    rw [← wb] at placed
    simp only [old, oldEver, extendRange, clipSpan] at span ever
    dsimp only at ascends inWindow explored
    exact .of_some ring span ever (by omega) (by omega) (by omega)

/-- A row decision writes one ring entry at most (R131). -/
theorem setState (h : c.Coherent) (n : Int) (st : RowState) : (c.setState n st).Coherent := by
  unfold Cvt.setState
  split
  · exact h.of_same List.length_set rfl rfl rfl
  · exact h

theorem decide (h : c.Coherent) (row : RowEntry) (slot : Bool) : (c.decide row slot).1.Coherent := by
  obtain ⟨-, same⟩ | ⟨counts, -, same | ⟨st, same⟩⟩ := c.decide_cases row slot
  · rw [same]; exact h
  · rw [same]; exact h.of_same rfl rfl rfl rfl
  · rw [same]; exact (h.setState row.row st).of_same rfl rfl rfl rfl

end Cvt.Coherent

/-! ## What an operation keeps of the coverage -/

/-- An operation that keeps the STRIP record in its ranges, and CVT coherent with it. A clause not given is that of an
operation that leaves the STRIP record or CVT as it is. -/
structure KeepsCoverage (s t : State) : Prop where
  strip : StripWithinRange s → StripWithinRange t := by exact id
  coverage : StripWithinRange s → s.cvt.Coherent → t.cvt.Coherent := by exact fun _ => id

namespace KeepsCoverage

theorem refl (s : State) : KeepsCoverage s s := {}

theorem trans {s t u : State} (h : KeepsCoverage s t) (h' : KeepsCoverage t u) : KeepsCoverage s u where
  strip := h'.strip ∘ h.strip
  coverage strip := h'.coverage (h.strip strip) ∘ h.coverage strip

/-- An operation that leaves CVT as it is, and keeps the ranges. -/
theorem of_cvt {s t : State} (ranges : KeepsRanges s t) (cvt : t.cvt = s.cvt) : KeepsCoverage s t where
  strip := ranges.strip
  coverage _ := by rw [cvt]; exact id

theorem settle (s : State) : KeepsCoverage s (settle s) := of_cvt (.settle s) (settle_cvt s)

theorem applyIdleCommits (s : State) : KeepsCoverage s (applyIdleCommits s) :=
  of_cvt (.applyIdleCommits s) (applyIdleCommits_cvt s)

theorem reportPhaseErrors (s : State) : KeepsCoverage s (reportPhaseErrors s) :=
  of_cvt (.reportPhaseErrors s) (reportPhaseErrors_cvt s)

theorem setOpState (op : OpState) (s : State) : KeepsCoverage s (setOpState op s) := by
  rw [setOpState_frame]; exact {}

theorem stopTest (s : State) : KeepsCoverage s (stopTest s) := by
  rw [stopTest_frame]; exact {}

theorem startExposure (kind : FrameKind) (i : BufferId) (s : State) : KeepsCoverage s (startExposure kind i s) := by
  rw [startExposure_frame]; exact {}

/-! ### The events of the exposure (R42 to R46) -/

theorem timerExpiry (s : State) : KeepsCoverage s (timerExpiry s) := by
  unfold Machine.timerExpiry
  split
  · exact refl s
  · rw [expire_frame]; exact {}

theorem exposureMidpoint (s : State) : KeepsCoverage s (exposureMidpoint s) := by
  unfold Machine.exposureMidpoint
  split <;> exact {}

theorem exposureEnd (s : State) : KeepsCoverage s (exposureEnd s) := by
  unfold Machine.exposureEnd
  split <;> exact {}

/-! ### Renders (R49, R50, R72, R123) -/

theorem tryRenderStart (s : State) : KeepsCoverage s (tryRenderStart s) := by
  unfold Machine.tryRenderStart
  split
  case isFalse => exact refl s
  case isTrue =>
    split
    case h_1 =>
      split
      case h_1 f _ =>
        rw [startRender_eq]
        exact { coverage := fun ⟨order, top, _⟩ coherent => coherent.renderStart f.position order top }
      all_goals exact refl s
    all_goals exact refl s

theorem handOn (k : RenderContext) (item : RowItem) (pixels : List Pixel) (s : State) :
    KeepsCoverage s (handOn k item pixels s) := by
  cases item with
  | take n sp =>
    refine ⟨(KeepsRanges.handOn k _ pixels s).strip, fun _ coherent => ?_⟩
    rw [handOn_take_cvt]
    exact coherent.decide _ _
  | meter sp => exact refl s

theorem finishRender (w : RenderWork) (f : Frame) (s : State) : KeepsCoverage s (finishRender w f s) := by
  have released : KeepsCoverage s
      (releaseBuffer w.buffer f
        { s with
          ilc := (s.ilc.onStatistics w.context.frameNumber w.stats w.context.trims).1, geo := .idle }) := by
    unfold releaseBuffer
    split <;> exact {}
  have raised (i : ControlItem) (u : State) : KeepsCoverage u (raise i u) := {}
  exact (((released.trans (raised _ _)).trans (reportPhaseErrors _)).trans (tryRenderStart _)).trans (stopTest _)

theorem completeRow (w : RenderWork) (item : RowItem) (f : Frame) (s : State) :
    KeepsCoverage s (completeRow w item f s) := by
  unfold Machine.completeRow
  dsimp only
  generalize renderRow w.context f.samples item.position = pixels
  refine (handOn w.context item pixels s).trans ?_
  split
  · exact finishRender ..
  · exact {}

theorem rowCompletion (s : State) : KeepsCoverage s (rowCompletion s) := by
  unfold Machine.rowCompletion
  split
  case h_1 =>
    split
    case h_1 => exact completeRow ..
    case h_2 => exact refl s
  all_goals exact refl s

/-! ### Trial renders and the store (R148, R153) -/

theorem storeTrialRow (w : TrialWork) (e : RowEntry) (s : State) : KeepsCoverage s (storeTrialRow w e s) := by
  rw [storeTrialRow_eq]
  split <;> exact {}

theorem trialRowCompletion (s : State) : KeepsCoverage s (trialRowCompletion s) := by
  unfold Machine.trialRowCompletion offerTrialRow
  split
  case h_1 =>
    split
    · split
      · exact storeTrialRow ..
      · exact {}
    · exact refl s
  all_goals exact refl s

theorem resumeTrial (s : State) : KeepsCoverage s (resumeTrial s) := by
  unfold Machine.resumeTrial
  split
  case h_1 =>
    split
    · exact storeTrialRow ..
    · exact refl s
  all_goals exact refl s

theorem wallReportSent (s : State) : KeepsCoverage s (wallReportSent s) := by
  unfold Machine.wallReportSent
  split
  · exact .trans (t := fillChanged { freeDownlink s with rws := s.rws.wallSent }) {} (resumeTrial _)
  · exact refl s

theorem markerReportSent (s : State) : KeepsCoverage s (markerReportSent s) := by
  unfold Machine.markerReportSent
  split <;> exact {}

theorem previewTileSent (s : State) : KeepsCoverage s (previewTileSent s) := by
  unfold Machine.previewTileSent
  split <;> exact {}

/-! ### Readouts (R47, R60) -/

theorem calibrationReadout (r : ExposureRecord) (rows : List (List Nat)) (s : State) :
    KeepsCoverage s (calibrationReadout r rows s) := by
  unfold Machine.calibrationReadout
  dsimp only
  split
  · refine .trans ?_ (setOpState .idle _)
    exact {}
  · refine .trans ?_ (applyIdleCommits _)
    exact {}

theorem streamReadout (i : BufferId) (f : Frame) (s : State) : KeepsCoverage s (streamReadout i f s) := by
  unfold Machine.streamReadout
  split
  · refine .trans ?_ (tryRenderStart _)
    exact {}
  · refine .trans ?_ ((applyIdleCommits _).trans (stopTest _))
    exact {}

theorem readoutCompletion (raw : List (List Sample)) (s : State) : KeepsCoverage s (readoutCompletion raw s) := by
  unfold Machine.readoutCompletion
  split
  case h_1 =>
    dsimp only
    split
    · exact streamReadout ..
    · refine .trans ?_ ((applyIdleCommits _).trans ((tryRenderStart _).trans (stopTest _)))
      exact {}
    · refine .trans ?_ (calibrationReadout ..)
      exact {}
    · refine .trans ?_ (.trans (applyIdleCommits _) {})
      exact {}
  all_goals exact refl s

/-! ### Commands (R6, R8, R35, R37, R38, R40, R51 to R53, R152) -/

/-- An accepted STRIP record is in its ranges, and a coverage clear leaves both spans empty (R6, R8, R139). -/
theorem cmdStrip (r : StripFields) (s : State) : KeepsCoverage s (cmdStrip r s).1 where
  strip := (KeepsRanges.cmdStrip r s).strip
  coverage _ coherent := by
    unfold Machine.cmdStrip
    split
    · exact coherent
    · split
      · exact coherent
      · dsimp only
        split
        · exact .of_empty Cvt.Coherent.reset.ring rfl rfl
        · exact coherent

theorem keepDelivered (s : State) : KeepsCoverage s (keepDelivered s) := by
  unfold Machine.keepDelivered
  split
  · split <;> exact {}
  all_goals exact {}

theorem cmdSensor (r : SensorFields) (s : State) : KeepsCoverage s (cmdSensor r s).1 := by
  unfold Machine.cmdSensor
  split
  · exact refl s
  · split
    · exact refl s
    · dsimp only
      split
      · exact refl s
      · split
        · exact refl s
        · dsimp only
          split
          · refine .trans ?_ (setOpState _ _)
            exact {}
          · exact {}

theorem cmdCalibrate (s : State) : KeepsCoverage s (cmdCalibrate s).1 := by
  unfold Machine.cmdCalibrate
  split_ifs
  case neg =>
    dsimp only
    refine .trans ?_ (setOpState _ _)
    exact {}
  all_goals exact refl s

theorem cmdStart (s : State) : KeepsCoverage s (cmdStart s).1 := by
  unfold Machine.cmdStart
  split_ifs
  case neg =>
    dsimp only
    exact .trans (t := startEffects s) {} (setOpState _ _)
  all_goals exact refl s

theorem cmdStop (s : State) : KeepsCoverage s (cmdStop s).1 := by
  unfold Machine.cmdStop
  split
  case h_3 =>
    unfold stopCalibration
    dsimp only
    refine (keepDelivered s).trans (.trans ?_ (setOpState _ _))
    exact {}
  case h_4 =>
    unfold stopStream
    dsimp only
    refine .trans ?_ ((setOpState _ _).trans (stopTest _))
    exact {}
  all_goals exact refl s

theorem cmdHold (s : State) : KeepsCoverage s (cmdHold s).1 := by
  unfold Machine.cmdHold
  dsimp only
  split
  case h_4 => split_ifs <;> exact {}
  case h_5 =>
    split_ifs
    · exact refl s
    · split
      · exact startExposure ..
      · exact refl s
  all_goals exact refl s

theorem cmdRelease (s : State) : KeepsCoverage s (cmdRelease s).1 := by
  unfold Machine.cmdRelease
  split
  · exact refl s
  · split
    · split <;> exact {}
    · split_ifs <;> exact {}

theorem cmdRerender (s : State) : KeepsCoverage s (cmdRerender s).1 := by
  unfold Machine.cmdRerender
  repeat' split
  all_goals exact {}

/-- RESET STREAM clears coverage (R140). -/
theorem resetStream (s : State) : KeepsCoverage s (resetStream s) where
  strip := (KeepsRanges.resetStream s).strip
  coverage _ _ := by
    unfold Machine.resetStream
    rw [setOpState_frame]
    exact .of_empty Cvt.Coherent.reset.ring rfl rfl

theorem fullReset (s : State) : KeepsCoverage s (fullReset s) where
  strip := (KeepsRanges.fullReset s).strip
  coverage _ _ := Cvt.Coherent.reset

theorem runCommand (tag : Byte) (c : Command) (s : State) : KeepsCoverage s (runCommand tag c s) := by
  have answered {r : State × Answer} (h : KeepsCoverage s r.1) : KeepsCoverage s (answer tag r) := h.trans {}
  by_cases strip : ∃ r, c = .strip r
  · obtain ⟨r, rfl⟩ := strip
    exact answered (cmdStrip r s)
  · rw [not_exists] at strip
    cases reaches : reachesCapture c with
    | false => exact of_cvt (.runCommand tag c s) (runCommand_cvt tag c s reaches strip)
    | true =>
      cases c with
      | sensor r => exact answered (cmdSensor r s)
      | light r => exact answered (by unfold cmdLight; split <;> exact {})
      | dark n => exact answered (by unfold cmdDark; split <;> exact {})
      | calibrate => exact answered (cmdCalibrate s)
      | start => exact answered (cmdStart s)
      | stop => exact answered (cmdStop s)
      | relight => exact answered (by unfold cmdRelight; split <;> exact {})
      | hold => exact answered (cmdHold s)
      | release => exact answered (cmdRelease s)
      | rerender => exact answered (cmdRerender s)
      | resetStream => exact answered (resetStream s)
      | resetFull => exact answered (fullReset s)
      | _ => cases reaches

end KeepsCoverage

/-! ### Every step -/

theorem keepsCoverage_keptByParts : KeptByParts KeepsCoverage where
  refl := .refl
  trans := .trans
  link _ _ := {}
  pending _ _ := {}
  tick _ := {}
  settle := .settle
  runCommand := .runCommand
  fullReset := .fullReset
  timerExpiry := .timerExpiry
  exposureMidpoint := .exposureMidpoint
  exposureEnd := .exposureEnd
  readoutCompletion := .readoutCompletion
  rowCompletion := .rowCompletion
  trialRowCompletion := .trialRowCompletion
  wallReportSent := .wallReportSent
  markerReportSent := .markerReportSent
  previewTileSent := .previewTileSent
  transition _ _ _ := {}
  closeWindow _ := {}
  receiveLine _ _ := {}
  gatherLine _ _ := {}
  lineSent _ := {}
  advisoryRepeat _ := {}

/-- Settles O59: every part of a step keeps the STRIP record in its ranges, and with it CVT coherent. -/
theorem everyStepKeepsTheSpanInTheWindow : Obligations.EveryStepKeepsTheSpanInTheWindow := by
  intro s t strip coverage h
  exact (coverageCoherent_iff t).mpr
    ((keepsCoverage_keptByParts.step s t h).coverage strip ((coverageCoherent_iff s).mp coverage))

/-! ## The ring entry of an index (R122) -/

theorem Cvt.inWindow_iff (c : Cvt) (n : Int) : c.inWindow n = true ↔ c.wb ≤ n ∧ n ≤ c.wb + 4095 := decide_eq_true_iff

theorem Cvt.everExplored_iff (c : Cvt) (n : Int) :
    c.everExplored n = true ↔ ∃ lo hi, c.ever = some (lo, hi) ∧ lo ≤ n ∧ n ≤ hi := by
  unfold Cvt.everExplored
  split
  case h_1 none => simp [none]
  case h_2 lo hi some => simp [some]

theorem Cvt.entryOf_inside {c : Cvt} {n : Int} (inside : c.inWindow n = true) :
    c.entryOf n = c.ring.getD (n - c.wb).toNat ⟨.unseen, false⟩ := if_pos inside

theorem Cvt.entryOf_outside {c : Cvt} {n : Int} (outside : ¬ c.inWindow n = true) : c.entryOf n = ⟨.unseen, false⟩ :=
  if_neg outside

/-! ## The decision on a row (R131 to R133) -/

theorem Cvt.setState_inside {c : Cvt} {n : Int} (st : RowState) (inside : c.inWindow n = true) :
    c.setState n st = { c with ring := c.ring.set (n - c.wb).toNat { c.entryOf n with state := st } } := if_pos inside

section
variable {c : Cvt} {row : RowEntry}

/-- A take with a slot (R132). -/
theorem Cvt.take_stored (inside : c.inWindow row.row = true) :
    c.take row true =
      ({ c with
          ring := c.ring.set (row.row - c.wb).toNat { c.entryOf row.row with state := takenState row.flags }
          counts := { c.counts with
            taken := c.counts.taken + 1
            late := c.counts.late + (if (c.entryOf row.row).state = .gap then 1 else 0)
            revisit := c.counts.revisit + (if (c.entryOf row.row).revisit then 1 else 0) } },
        some { row with
          kind := .take
          flags := { row.flags with
            late := Decidable.decide ((c.entryOf row.row).state = .gap)
            revisit := (c.entryOf row.row).revisit } }) := by
  have late : ((c.entryOf row.row).state == RowState.gap) = Decidable.decide ((c.entryOf row.row).state = .gap) :=
    beq_eq_decide _ _
  simp only [Cvt.take, if_true, Cvt.setState_inside _ inside, late, bit, decide_eq_true_eq]

/-- A take without a slot is a store skip (R132, R136). -/
theorem Cvt.take_skipped :
    c.take row false = ({ c with counts := { c.counts with skips := c.counts.skips + 1 } }, none) := rfl

/-- A retake is stored when it is settled, unsaturated and has a slot (R133). -/
theorem Cvt.retake_stored (inside : c.inWindow row.row = true)
    (clean : (row.flags.unsettled || row.flags.saturated) = false) :
    c.retake row true =
      ({ c with
          ring := c.ring.set (row.row - c.wb).toNat { c.entryOf row.row with state := .firm }
          counts := { c.counts with retaken := c.counts.retaken + 1 } },
        some { row with kind := .retake }) := by
  rw [Bool.or_eq_false_iff] at clean
  simp only [Cvt.retake, clean, Bool.not_false, Bool.and_self, if_true, Cvt.setState_inside _ inside]

/-- Any other retake is rejected (R133). -/
theorem Cvt.retake_rejected {slot : Bool} (fails : (row.flags.unsettled || row.flags.saturated) = true ∨ slot = false) :
    c.retake row slot = ({ c with counts := { c.counts with rejected := c.counts.rejected + 1 } }, none) := by
  refine if_neg ?_
  rcases fails with fails | rfl
  · rw [← Bool.not_or, fails]
    simp
  · simp

/-- UNSEEN and GAP rows are taken (R131). -/
theorem Cvt.decide_open (slot : Bool) (open_ : (c.entryOf row.row).state = .unseen ∨ (c.entryOf row.row).state = .gap) :
    c.decide row slot = c.take row slot := by
  rcases open_ with state | state
  all_goals simp only [Cvt.decide, state]

/-- SOFT rows are retaken (R131). -/
theorem Cvt.decide_soft (slot : Bool) (soft : (c.entryOf row.row).state = .soft) :
    c.decide row slot = c.retake row slot := by
  simp only [Cvt.decide, soft]

end

/-- Settles O35, by the state of the row's ring entry, and then by the slot and the flags. -/
theorem rowDecision : Obligations.RowDecision := by
  intro c row slot inside e soft c' stored
  have outcome {after : Cvt} {entry : Option RowEntry} (h : c.decide row slot = (after, entry)) :
      stored = entry ∧ c' = after :=
    ⟨congrArg Prod.snd h, congrArg Prod.fst h⟩
  refine ⟨fun open_ free => outcome ?_, fun open_ full => outcome ?_, fun isSoft clean free => outcome ?_,
    fun isSoft fails => outcome ?_⟩
  · rw [free, Cvt.decide_open true open_]
    exact Cvt.take_stored inside
  · rw [full, Cvt.decide_open false open_]
    exact Cvt.take_skipped
  · rw [free, Cvt.decide_soft true isSoft]
    exact Cvt.retake_stored inside clean
  · rw [Cvt.decide_soft slot isSoft]
    exact Cvt.retake_rejected fails

/-! ## Lists of ranges (R127) -/

theorem inRanges_iff (l : List (Int × Int)) (n : Int) : inRanges l n = true ↔ ∃ g ∈ l, g.1 ≤ n ∧ n ≤ g.2 := by
  simp [inRanges]

@[simp] theorem inRanges_nil (n : Int) : inRanges [] n = false := rfl

@[simp] theorem inRanges_cons (g : Int × Int) (l : List (Int × Int)) (n : Int) :
    inRanges (g :: l) n = true ↔ (g.1 ≤ n ∧ n ≤ g.2) ∨ inRanges l n = true := by
  simp [inRanges]

@[simp] theorem inRanges_append (l l' : List (Int × Int)) (n : Int) :
    inRanges (l ++ l') n = true ↔ inRanges l n = true ∨ inRanges l' n = true := by
  simp [inRanges]

@[simp] theorem inRanges_rangeIfAny (lo hi n : Int) : inRanges (rangeIfAny lo hi) n = true ↔ lo ≤ n ∧ n ≤ hi := by
  unfold rangeIfAny
  split
  · simp
  · simp only [inRanges_nil, Bool.false_eq_true, false_iff]
    omega

/-- The ranges of one row each of a list of rows hold those rows. -/
@[simp] theorem inRanges_singles (rows : List Int) (n : Int) :
    inRanges (rows.map fun m => (m, m)) n = true ↔ n ∈ rows := by
  rw [inRanges_iff]
  constructor
  · rintro ⟨g, single, low, high⟩
    obtain ⟨m, listed, rfl⟩ := List.mem_map.mp single
    rwa [le_antisymm high low]
  · exact fun listed => ⟨(n, n), List.mem_map_of_mem listed, le_rfl, le_rfl⟩

/-- Ranges of at least one row each, in ascending order and apart from each other. -/
structure Ascending (l : List (Int × Int)) : Prop where
  nonempty : ∀ g ∈ l, g.1 ≤ g.2
  ordered : l.Pairwise fun a b => a.2 < b.1

theorem ascending_cons (g : Int × Int) (l : List (Int × Int)) :
    Ascending (g :: l) ↔ g.1 ≤ g.2 ∧ (∀ b ∈ l, g.2 < b.1) ∧ Ascending l := by
  constructor
  · rintro ⟨nonempty, ordered⟩
    rw [List.forall_mem_cons] at nonempty
    rw [List.pairwise_cons] at ordered
    exact ⟨nonempty.1, ordered.1, nonempty.2, ordered.2⟩
  · rintro ⟨here, first, nonempty, ordered⟩
    exact ⟨List.forall_mem_cons.mpr ⟨here, nonempty⟩, List.pairwise_cons.mpr ⟨first, ordered⟩⟩

theorem Ascending.append {l l' : List (Int × Int)} (h : Ascending l) (h' : Ascending l')
    (before : ∀ a ∈ l, ∀ b ∈ l', a.2 < b.1) : Ascending (l ++ l') where
  nonempty g listed := (List.mem_append.mp listed).elim (h.nonempty g) (h'.nonempty g)
  ordered := List.pairwise_append.mpr ⟨h.ordered, h'.ordered, before⟩

theorem mem_rangeIfAny {lo hi : Int} {g : Int × Int} : g ∈ rangeIfAny lo hi ↔ lo ≤ hi ∧ g = (lo, hi) := by
  unfold rangeIfAny
  split <;> simp [*]

theorem Ascending.rangeIfAny (lo hi : Int) : Ascending (rangeIfAny lo hi) := by
  refine ⟨fun g listed => ?_, ?_⟩
  · obtain ⟨some, rfl⟩ := mem_rangeIfAny.mp listed
    exact some
  · unfold Machine.rangeIfAny
    split
    · exact List.pairwise_singleton _ _
    · exact .nil

theorem Ascending.singles {rows : List Int} (ascending : rows.Pairwise (· < ·)) :
    Ascending (rows.map fun m => (m, m)) where
  nonempty := by
    rw [List.forall_mem_map]
    exact fun _ _ => le_rfl
  ordered := List.pairwise_map.mpr ascending

/-- The ranges are the maximal runs of the rows of which `P` holds, in ascending order: they hold those rows and no
other, and between two of them a row is left out. -/
structure MaximalRuns (P : Int → Prop) (l : List (Int × Int)) : Prop where
  holds : ∀ n, inRanges l n = true ↔ P n
  nonempty : ∀ g ∈ l, g.1 ≤ g.2
  apart : l.Pairwise fun a b => a.2 + 1 < b.1

namespace MaximalRuns

variable {P Q : Int → Prop} {l : List (Int × Int)}

theorem congr (h : MaximalRuns P l) (same : ∀ n, P n ↔ Q n) : MaximalRuns Q l :=
  { h with holds := fun n => (h.holds n).trans (same n) }

theorem inside (h : MaximalRuns P l) {g : Int × Int} (listed : g ∈ l) {n : Int} (low : g.1 ≤ n) (high : n ≤ g.2) :
    P n :=
  (h.holds n).mp ((inRanges_iff l n).mpr ⟨g, listed, low, high⟩)

/-- The row before a run and the row behind it are not of the rows. -/
theorem ends (h : MaximalRuns P l) {g : Int × Int} (listed : g ∈ l) : ¬ P (g.1 - 1) ∧ ¬ P (g.2 + 1) := by
  have here := h.nonempty g listed
  have symm : Std.Symm fun a b : Int × Int => a.2 + 1 < b.1 ∨ b.2 + 1 < a.1 := ⟨fun _ _ => Or.symm⟩
  have distinct := List.Pairwise.forall (R := fun a b : Int × Int => a.2 + 1 < b.1 ∨ b.2 + 1 < a.1)
    (h.apart.imp Or.inl)
  constructor
  all_goals
    rw [← h.holds, inRanges_iff]
    rintro ⟨g', listed', low, high⟩
    by_cases same : g = g'
    · subst same
      omega
    · have := distinct listed listed' same
      omega

end MaximalRuns

/-- Joining the adjacent ranges of an ascending list leaves its maximal runs. -/
theorem joinRanges_maximalRuns (cur : Int × Int) (rest : List (Int × Int)) (ascending : Ascending (cur :: rest)) :
    MaximalRuns (fun n => inRanges (cur :: rest) n = true) (joinRanges cur rest) := by
  induction rest generalizing cur with
  | nil =>
    exact ⟨fun _ => Iff.rfl, ascending.nonempty, List.pairwise_singleton _ _⟩
  | cons r rest ih =>
    obtain ⟨here, before, later⟩ := (ascending_cons _ _).mp ascending
    obtain ⟨next, beforeRest, last⟩ := (ascending_cons _ _).mp later
    have cur_r : cur.2 < r.1 := before r List.mem_cons_self
    unfold joinRanges
    split
    case isTrue adjacent =>
      have joined : Ascending ((cur.1, r.2) :: rest) :=
        (ascending_cons _ _).mpr ⟨by dsimp only; omega, beforeRest, last⟩
      refine (ih _ joined).congr fun n => ?_
      simp only [inRanges_cons, ← or_assoc]
      refine or_congr_left ?_
      omega
    case isFalse gap =>
      have runs := ih r later
      refine ⟨fun n => ?_, List.forall_mem_cons.mpr ⟨here, runs.nonempty⟩,
        List.pairwise_cons.mpr ⟨fun g listed => ?_, runs.apart⟩⟩
      · rw [inRanges_cons, runs.holds, inRanges_cons cur]
      · have covered := runs.inside listed le_rfl (runs.nonempty g listed)
        obtain ⟨g', listed', low, -⟩ := (inRanges_iff _ _).mp covered
        rcases List.mem_cons.mp listed' with rfl | listed'
        · omega
        · have := beforeRest g' listed'
          omega

/-! ## The ranges of a candidate part (R126, R127) -/

/-- The UNSEEN rows of a part before adjacent ones are joined: those below the old window, each of those in it, and those
above it. -/
def Cvt.unseenPieces (c : Cvt) (lo hi : Int) : List (Int × Int) :=
  rangeIfAny lo (min hi (c.wb - 1))
    ++ ((rowsFromTo (max lo c.wb) (min hi (c.wb + 4095))).filter (fun n => (c.entryOf n).state == .unseen)).map
      (fun n => (n, n))
    ++ rangeIfAny (max lo (c.wb + 4096)) hi

theorem Cvt.mem_unseenPieces (c : Cvt) (lo hi n : Int) :
    inRanges (c.unseenPieces lo hi) n = true ↔ lo ≤ n ∧ n ≤ hi ∧ (c.entryOf n).state = .unseen := by
  simp only [Cvt.unseenPieces, inRanges_append, inRanges_rangeIfAny, inRanges_singles, List.mem_filter, mem_rowsFromTo,
    beq_iff_eq]
  by_cases unseen : (c.entryOf n).state = .unseen
  · simp only [iff_true_intro unseen, and_true]
    omega
  · have inside : c.wb ≤ n ∧ n ≤ c.wb + 4095 := by
      by_contra outside
      exact unseen (by rw [Cvt.entryOf_outside ((c.inWindow_iff n).not.mpr outside)])
    simp only [unseen, and_false, or_false, iff_false]
    omega

theorem Cvt.unseenPieces_ascending (c : Cvt) (lo hi : Int) : Ascending (c.unseenPieces lo hi) := by
  refine ((Ascending.rangeIfAny _ _).append (.singles ((rowsFromTo_ascending _ _).filter _)) ?_).append
    (.rangeIfAny _ _) ?_
  · intro a below b within
    obtain ⟨-, rfl⟩ := mem_rangeIfAny.mp below
    obtain ⟨m, row, rfl⟩ := List.mem_map.mp within
    have := (mem_rowsFromTo _ _ _).mp (List.mem_of_mem_filter row)
    dsimp only
    omega
  · intro a listed b above
    obtain ⟨-, rfl⟩ := mem_rangeIfAny.mp above
    rcases List.mem_append.mp listed with below | within
    · obtain ⟨-, rfl⟩ := mem_rangeIfAny.mp below
      dsimp only
      omega
    · obtain ⟨m, row, rfl⟩ := List.mem_map.mp within
      have := (mem_rowsFromTo _ _ _).mp (List.mem_of_mem_filter row)
      dsimp only
      omega

/-- The ranges of a part are the maximal runs of its UNSEEN rows. -/
theorem Cvt.unseenRuns_maximalRuns (c : Cvt) (lo hi : Int) :
    MaximalRuns (fun n => lo ≤ n ∧ n ≤ hi ∧ (c.entryOf n).state = .unseen) (c.unseenRuns lo hi) := by
  have holds := c.mem_unseenPieces lo hi
  have ascending := c.unseenPieces_ascending lo hi
  unfold Cvt.unseenRuns
  dsimp only
  split
  case h_1 none =>
    rw [show c.unseenPieces lo hi = [] from none] at holds
    exact ⟨holds, List.forall_mem_nil _, .nil⟩
  case h_2 r rest pieces =>
    rw [show c.unseenPieces lo hi = r :: rest from pieces] at holds ascending
    exact (joinRanges_maximalRuns r rest ascending).congr holds

/-- A range of a part lies inside the part. -/
theorem Cvt.unseenRuns_bounds {c : Cvt} {lo hi : Int} {g : Int × Int} (listed : g ∈ c.unseenRuns lo hi) :
    lo ≤ g.1 ∧ g.2 ≤ hi := by
  have runs := c.unseenRuns_maximalRuns lo hi
  have here := runs.nonempty g listed
  exact ⟨(runs.inside listed le_rfl here).1, (runs.inside listed here le_rfl).2.1⟩

/-! ## The ranges of a render start (R126, R127) -/

/-- A row that travel has passed over: of the old span or between span and band, outside the band, and UNSEEN before the
window moved (R126). -/
def Cvt.Passed (c : Cvt) (nMin nMax n : Int) : Prop :=
  (∃ lo hi, c.span = some (lo, hi) ∧ (lo ≤ n ∧ n < nMin ∨ nMax < n ∧ n ≤ hi)) ∧ (c.entryOf n).state = .unseen

section
variable {c : Cvt} {nMin nMax : Int}

theorem Cvt.mem_declaredRanges (travel : Travel) (g : Int × Int) :
    g ∈ c.declaredRanges nMin nMax travel ↔
      ∃ lo hi, c.span = some (lo, hi) ∧ (g ∈ c.unseenRuns lo (nMin - 1) ∨ g ∈ c.unseenRuns (nMax + 1) hi) := by
  unfold Cvt.declaredRanges
  cases span : c.span with
  | none => simp
  | some f =>
    obtain ⟨lo, hi⟩ := f
    cases travel with
    | forward => simp
    | reverse => simp [or_comm]

/-- The declared ranges hold the rows passed over, and no other. -/
theorem Cvt.inRanges_declaredRanges (travel : Travel) (n : Int) :
    inRanges (c.declaredRanges nMin nMax travel) n = true ↔ c.Passed nMin nMax n := by
  have part (lo hi : Int) := ((c.unseenRuns_maximalRuns lo hi).holds n).symm.trans (inRanges_iff _ n)
  rw [inRanges_iff, Cvt.Passed]
  simp only [Cvt.mem_declaredRanges]
  constructor
  · rintro ⟨g, ⟨lo, hi, span, lower | upper⟩, within⟩
    · obtain ⟨low, high, unseen⟩ := (part lo (nMin - 1)).mpr ⟨g, lower, within⟩
      exact ⟨⟨lo, hi, span, .inl ⟨low, by omega⟩⟩, unseen⟩
    · obtain ⟨low, high, unseen⟩ := (part (nMax + 1) hi).mpr ⟨g, upper, within⟩
      exact ⟨⟨lo, hi, span, .inr ⟨by omega, high⟩⟩, unseen⟩
  · rintro ⟨⟨lo, hi, span, ⟨low, high⟩ | ⟨low, high⟩⟩, unseen⟩
    · obtain ⟨g, lower, within⟩ := (part lo (nMin - 1)).mp ⟨low, by omega, unseen⟩
      exact ⟨g, ⟨lo, hi, span, .inl lower⟩, within⟩
    · obtain ⟨g, upper, within⟩ := (part (nMax + 1) hi).mp ⟨by omega, high, unseen⟩
      exact ⟨g, ⟨lo, hi, span, .inr upper⟩, within⟩

/-- A declared range ends at the band or at a row that is not declared, on either side. -/
theorem Cvt.declaredRanges_maximal (band : nMin ≤ nMax + 1) {travel : Travel} {g : Int × Int}
    (declared : g ∈ c.declaredRanges nMin nMax travel) :
    g.1 ≤ g.2 ∧ (g.1 = nMax + 1 ∨ ¬ c.Passed nMin nMax (g.1 - 1))
      ∧ (g.2 + 1 = nMin ∨ ¬ c.Passed nMin nMax (g.2 + 1)) := by
  obtain ⟨lo, hi, span, part⟩ := (Cvt.mem_declaredRanges travel g).mp declared
  have passed {n : Int} (h : c.Passed nMin nMax n) :
      (lo ≤ n ∧ n < nMin ∨ nMax < n ∧ n ≤ hi) ∧ (c.entryOf n).state = .unseen := by
    obtain ⟨⟨lo', hi', span', where_⟩, unseen⟩ := h
    cases span.symm.trans span'
    exact ⟨where_, unseen⟩
  obtain ⟨first, last, ofPart, listed⟩ :
      ∃ first last, (first = lo ∧ last = nMin - 1 ∨ first = nMax + 1 ∧ last = hi) ∧ g ∈ c.unseenRuns first last :=
    part.elim (fun lower => ⟨_, _, .inl ⟨rfl, rfl⟩, lower⟩) fun upper => ⟨_, _, .inr ⟨rfl, rfl⟩, upper⟩
  have runs := c.unseenRuns_maximalRuns first last
  have here := runs.nonempty g listed
  obtain ⟨low, high⟩ := Cvt.unseenRuns_bounds listed
  obtain ⟨before, behind⟩ := runs.ends listed
  refine ⟨here, or_iff_not_imp_left.mpr fun notBand h => before ?_, or_iff_not_imp_left.mpr fun notBand h => behind ?_⟩
  all_goals
    obtain ⟨beside, unseen⟩ := passed h
    exact ⟨by omega, by omega, unseen⟩

/-- In FORWARD travel the ranges ascend. -/
theorem Cvt.declaredRanges_forward (band : nMin ≤ nMax + 1) :
    (c.declaredRanges nMin nMax .forward).Pairwise fun a b => a.2 < b.1 := by
  have ascends (lo hi : Int) : (c.unseenRuns lo hi).Pairwise fun a b => a.2 < b.1 :=
    (c.unseenRuns_maximalRuns lo hi).apart.imp fun h => by omega
  unfold Cvt.declaredRanges
  split
  · exact .nil
  · refine List.pairwise_append.mpr ⟨ascends _ _, ascends _ _, fun a lower b upper => ?_⟩
    have := Cvt.unseenRuns_bounds lower
    have := Cvt.unseenRuns_bounds upper
    omega

/-- In REVERSE travel the same ranges come in the opposite order. -/
theorem Cvt.declaredRanges_reverse :
    c.declaredRanges nMin nMax .reverse = (c.declaredRanges nMin nMax .forward).reverse := by
  unfold Cvt.declaredRanges
  split
  · rfl
  · exact List.reverse_append.symm

end

/-! ## The ring after a render start (R125, R127) -/

theorem getElem?_rowsFromTo {lo hi n : Int} (low : lo ≤ n) (high : n ≤ hi) :
    (rowsFromTo lo hi)[(n - lo).toNat]? = some n := by
  rw [rowsFromTo, List.getElem?_map, List.getElem?_range (by omega), Option.map_some, Int.toNat_of_nonneg (by omega)]
  congr 1
  omega

/-- The entry of a row in the placed window: its old one, or that of a row that enters (R125). -/
theorem Cvt.getElem?_movedRing {c : Cvt} (whole : c.ring.length = 4096) {wb n : Int} (low : wb ≤ n)
    (high : n ≤ wb + 4095) :
    (c.movedRing wb)[(n - wb).toNat]? = some (if c.inWindow n then c.entryOf n else c.entering n) := by
  unfold Cvt.movedRing
  split
  case isTrue same =>
    subst same
    have inside : c.inWindow n = true := (c.inWindow_iff n).mpr ⟨low, high⟩
    rw [if_pos inside, Cvt.entryOf_inside inside, List.getD_eq_getElem _ _ (by omega), List.getElem?_eq_getElem]
  case isFalse => rw [List.getElem?_map, getElem?_rowsFromTo low high, Option.map_some]

theorem getElem?_markGaps (ring : List RingEntry) (ranges : List (Int × Int)) {wb n : Int} (low : wb ≤ n) :
    (markGaps ring wb ranges)[(n - wb).toNat]? =
      ring[(n - wb).toNat]?.map fun e => if inRanges ranges n then { e with state := .gap } else e := by
  have index : wb + ((n - wb).toNat : Int) = n := by omega
  rw [markGaps, List.getElem?_mapIdx, index]

/-- The ring entry of a row in the placed window: its old one or that of a row that enters, a GAP when the row was
passed over (R125, R127). -/
theorem Cvt.entryOf_renderStart {c : Cvt} (whole : c.ring.length = 4096) (r : StripRecord) (xf : Int) {n : Int}
    (inside : (c.renderStart r xf).cvt.inWindow n = true) :
    (c.renderStart r xf).cvt.entryOf n =
      let e := if c.inWindow n then c.entryOf n else c.entering n
      if inRanges (c.renderStart r xf).ranges n then { e with state := .gap } else e := by
  obtain ⟨low, high⟩ := (Cvt.inWindow_iff _ n).mp inside
  rw [Cvt.entryOf_inside inside, Cvt.renderStart_ring, List.getD_eq_getElem?_getD, getElem?_markGaps _ _ low,
    Cvt.getElem?_movedRing whole low high]
  rfl

/-- A row that enters counted as UNSEEN before, as every row outside the old window. -/
theorem Cvt.entryOf_placed_state (c : Cvt) (n : Int) :
    (if c.inWindow n then c.entryOf n else c.entering n).state = (c.entryOf n).state := by
  split
  · rfl
  · next outside => rw [Cvt.entryOf_outside outside]; rfl

/-- Settles O34: the declared ranges are the maximal runs of the rows passed over, the ring is read entry by entry, and the
spans and counts are those of the six steps of R123. -/
theorem gapsAreDeclaredOverThePassedRows : Obligations.GapsAreDeclaredOverThePassedRows := by
  refine ⟨fun c n => ⟨c.inWindow_iff n, ?_, c.everExplored_iff n⟩, ?_⟩
  · simp only [Cvt.entryOf, c.inWindow_iff]
  intro c r xf whole band nMin nMax start t candidate
  have ranges : start.ranges = c.declaredRanges nMin nMax t.prevDir := c.renderStart_ranges r xf
  have holds (n : Int) : inRanges start.ranges n = true ↔ candidate n := by
    rw [ranges]
    exact c.inRanges_declaredRanges t.prevDir n
  refine ⟨fun n => (inRanges_iff _ n).symm.trans (holds n),
    fun g listed => c.declaredRanges_maximal band (ranges ▸ listed),
    fun forward => ?forward, fun reverse => ?reverse, rfl, rfl, fun n inside => ?ring, ?span, ?ever, rfl, rfl, rfl, rfl⟩
  case forward =>
    rw [ranges, forward]
    exact Cvt.declaredRanges_forward band
  case reverse =>
    rw [ranges, reverse, Cvt.declaredRanges_reverse]
    exact List.pairwise_reverse.mpr (Cvt.declaredRanges_forward band)
  case ring =>
    have entry := Cvt.entryOf_renderStart whole r xf inside
    have state := c.entryOf_placed_state n
    refine ⟨fun passed => ?_, fun kept => ?_, ?_⟩
    · rw [entry, if_pos ((holds n).mpr passed)]
    · rw [entry, if_neg ((holds n).not.mpr kept), state]
    · rw [entry]
      split <;> split <;> rfl
  case span =>
    rw [Cvt.renderStart_span]
    cases c.span with
    | none => exact apply_ite (clipSpan _) _ _ _
    | some f => rfl
  case ever =>
    rw [Cvt.renderStart_ever]
    cases c.ever <;> rfl

end Sys2Proof.Machine

/-! # The row store: gap entries and previews -/

namespace Sys2Proof.Machine

-- With it on, the many small proofs start more threads than the check's limits allow.
set_option Elab.async false

/-! ## The newest unsent GAP entry (R145) -/

theorem newestGap_cons_eq_none_iff (e : Entry) (rest : List Entry) :
    newestGap (e :: rest) = none ↔ (∀ g, e ≠ .gap g) ∧ newestGap rest = none := by
  cases newest : newestGap rest with
  | some p => simp [newestGap, newest]
  | none => cases e <;> simp [newestGap, newest]

theorem newestGap_cons_eq_zero_iff (e : Entry) (rest : List Entry) (g : GapEntry) :
    newestGap (e :: rest) = some (0, g) ↔ e = .gap g ∧ newestGap rest = none := by
  cases newest : newestGap rest with
  | some p => simp [newestGap, newest]
  | none => cases e <;> simp [newestGap, newest]

theorem newestGap_cons_eq_succ_iff (e : Entry) (rest : List Entry) (i : Nat) (g : GapEntry) :
    newestGap (e :: rest) = some (i + 1, g) ↔ newestGap rest = some (i, g) := by
  cases newest : newestGap rest with
  | some p => simp [newestGap, newest, Prod.ext_iff]
  | none => cases e <;> simp [newestGap, newest]

/-- The entry at `i` is the GAP entry `g`, and no GAP entry stands behind it. -/
def IsNewestGap (entries : List Entry) (i : Nat) (g : GapEntry) : Prop :=
  entries[i]? = some (.gap g) ∧ ∀ j g', i < j → entries[j]? ≠ some (.gap g')

theorem isNewestGap_cons_zero (e : Entry) (rest : List Entry) (g : GapEntry) :
    IsNewestGap (e :: rest) 0 g ↔ e = .gap g ∧ ∀ (j : Nat) g', rest[j]? ≠ some (.gap g') := by
  unfold IsNewestGap
  rw [← Nat.and_forall_add_one]
  simp

theorem isNewestGap_cons_succ (e : Entry) (rest : List Entry) (i : Nat) (g : GapEntry) :
    IsNewestGap (e :: rest) (i + 1) g ↔ IsNewestGap rest i g := by
  unfold IsNewestGap
  rw [← Nat.and_forall_add_one]
  simp

theorem isNewestGap_drop (entries : List Entry) (k i : Nat) (g : GapEntry) :
    IsNewestGap (entries.drop k) i g ↔ IsNewestGap entries (i + k) g := by
  simp only [IsNewestGap, List.getElem?_drop, Nat.add_comm k]
  refine and_congr_right fun _ => ⟨fun none j g' behind => ?_, fun none j g' behind => none _ g' (by omega)⟩
  obtain ⟨j, rfl⟩ := Nat.exists_eq_add_of_le' (show k ≤ j by omega)
  exact none j g' (by omega)

theorem newestGap_eq_none_iff (entries : List Entry) :
    newestGap entries = none ↔ ∀ (j : Nat) g, entries[j]? ≠ some (.gap g) := by
  induction entries with
  | nil => simp [newestGap]
  | cons e rest ih =>
    refine Iff.trans ?_ Nat.and_forall_add_one
    rw [newestGap_cons_eq_none_iff, ih]
    simp

theorem newestGap_eq_some_iff (entries : List Entry) (i : Nat) (g : GapEntry) :
    newestGap entries = some (i, g) ↔ IsNewestGap entries i g := by
  induction entries generalizing i with
  | nil => simp [newestGap, IsNewestGap]
  | cons e rest ih =>
    cases i with
    | zero => rw [newestGap_cons_eq_zero_iff, newestGap_eq_none_iff, isNewestGap_cons_zero]
    | succ i => rw [newestGap_cons_eq_succ_iff, ih, isNewestGap_cons_succ]

/-- The newest unsent GAP entry is the newest one, unless that is in transmission. -/
theorem Rws.newestUnsentGap_eq_some_iff (r : Rws) (i : Nat) (g : GapEntry) :
    r.newestUnsentGap = some (i, g) ↔ (r.wallSending = true → 1 ≤ i) ∧ IsNewestGap r.entries i g := by
  have ahead : r.sent ≤ i ↔ (r.wallSending = true → 1 ≤ i) := by
    cases sending : r.wallSending <;> simp [Rws.sent, bit, sending]
  have place : r.newestUnsentGap = some (i, g) ↔
      ∃ k, newestGap (r.entries.drop r.sent) = some (k, g) ∧ k + r.sent = i := by
    simp [Rws.newestUnsentGap]
  rw [place, ← ahead]
  simp only [newestGap_eq_some_iff, isNewestGap_drop]
  constructor
  · rintro ⟨k, newest, rfl⟩
    exact ⟨Nat.le_add_left .., newest⟩
  · rintro ⟨le, newest⟩
    exact ⟨i - r.sent, by rwa [Nat.sub_add_cancel le], Nat.sub_add_cancel le⟩

/-! ## A gap range taken (R145, R146) -/

theorem adjacentGap_iff (g : GapEntry) (nFirst nLast : Int) (d : Direction) :
    adjacentGap g nFirst nLast d = true ↔ g.direction = d ∧ (nFirst = g.nLast + 1 ∨ nLast = g.nFirst - 1) :=
  decide_eq_true_iff

theorem Rws.mergeTarget_eq_some_iff (r : Rws) (nFirst nLast : Int) (d : Direction) (i : Nat) (g : GapEntry) :
    r.mergeTarget nFirst nLast d = some (i, g) ↔
      r.newestUnsentGap = some (i, g) ∧ adjacentGap g nFirst nLast d = true := by
  unfold Rws.mergeTarget
  cases r.newestUnsentGap with
  | none => simp
  | some p =>
    obtain ⟨k, h⟩ := p
    by_cases adjacent : adjacentGap h nFirst nLast d = true
    · simp only [adjacent, if_true, Option.some.injEq, Prod.mk.injEq, iff_self_and]
      exact fun ⟨_, same⟩ => same ▸ adjacent
    · simp only [adjacent, Option.some.injEq, Prod.mk.injEq]
      exact iff_of_false (by simp) fun ⟨⟨_, same⟩, yes⟩ => adjacent (same ▸ yes)

theorem Rws.mergeTarget_eq_none_iff (r : Rws) (nFirst nLast : Int) (d : Direction) :
    r.mergeTarget nFirst nLast d = none ↔
      ∀ i g, r.newestUnsentGap = some (i, g) → ¬ adjacentGap g nFirst nLast d = true := by
  rw [Option.eq_none_iff_forall_not_mem]
  simp [Rws.mergeTarget_eq_some_iff]

theorem takeGapRange_merge {nFirst nLast : Int} {d : Direction} {s : State} {i : Nat} {g : GapEntry}
    (target : s.rws.mergeTarget nFirst nLast d = some (i, g)) (frameNumber : Nat) :
    takeGapRange nFirst nLast frameNumber d s =
      { s with
        rws := { s.rws with
          entries := s.rws.entries.set i
            (.gap { g with nFirst := min g.nFirst nFirst, nLast := max g.nLast nLast }) } } := by
  unfold takeGapRange
  simp only [target]

theorem takeGapRange_store {nFirst nLast : Int} {d : Direction} {s : State}
    (apart : s.rws.mergeTarget nFirst nLast d = none) (room : s.rws.gapSlotFree = true) (frameNumber : Nat) :
    takeGapRange nFirst nLast frameNumber d s = storeEntry (.gap ⟨nFirst, nLast, frameNumber, d⟩) s := by
  unfold takeGapRange
  simp only [apart, room, if_true]

theorem takeGapRange_lose {nFirst nLast : Int} {d : Direction} {s : State}
    (apart : s.rws.mergeTarget nFirst nLast d = none) (full : s.rws.gapSlotFree = false) (frameNumber : Nat) :
    takeGapRange nFirst nLast frameNumber d s =
      let lost := min (s.rws.lostGapRows + (nLast - nFirst + 1).toNat) Config.max32
      raiseEvent (.gapLost nFirst nLast frameNumber d lost) { s with rws := { s.rws with lostGapRows := lost } } := by
  unfold takeGapRange
  simp only [apart, full]
  rfl

/-- Settles O44: the newest unsent GAP entry by recursion on the entries, and a range by whether it merges and by
whether a gap slot is free. -/
theorem gapRangeIsMergedStoredOrLost : Obligations.GapRangeIsMergedStoredOrLost := by
  refine ⟨fun r i g => (r.newestUnsentGap_eq_some_iff i g).trans and_left_comm,
    fun nFirst nLast frameNumber d s => ⟨fun i g newest direction side => ?merged, fun apart => ?_⟩⟩
  case merged =>
    have target := (s.rws.mergeTarget_eq_some_iff nFirst nLast d i g).mpr
      ⟨newest, (adjacentGap_iff ..).mpr ⟨direction, side⟩⟩
    exact takeGapRange_merge target frameNumber
  have noTarget : s.rws.mergeTarget nFirst nLast d = none :=
    (s.rws.mergeTarget_eq_none_iff nFirst nLast d).mpr fun i g newest => (adjacentGap_iff ..).not.mpr (apart i g newest)
  refine ⟨fun room => ?stored, fun full => ?lost⟩
  case stored => exact (takeGapRange_store noTarget (decide_eq_true room) frameNumber).trans (storeEntry_eq ..)
  case lost => exact takeGapRange_lose noTarget (decide_eq_false (not_lt.mpr full)) frameNumber

/-! ## A preview is due (R155, R156) -/

theorem Rws.previewAtRender_off {r : Rws} (off : r.nPrev = 0) (f : Frame) :
    r.previewAtRender f = { r with previewCounter := 0 } := if_pos off

theorem Rws.previewAtRender_counts {r : Rws} (below : r.previewCounter + 1 < r.nPrev) (f : Frame) :
    r.previewAtRender f = { r with previewCounter := r.previewCounter + 1 } := by
  unfold Rws.previewAtRender
  rw [if_neg (by omega), if_neg (by omega)]

theorem Rws.previewAtRender_due {r : Rws} (on : 0 < r.nPrev) (reached : r.nPrev ≤ r.previewCounter + 1) (f : Frame) :
    r.previewAtRender f = { r with previewCounter := 0 }.previewDue f .render := by
  unfold Rws.previewAtRender
  rw [if_neg (by omega), if_pos reached]

/-! ## What a preview holds (R155) -/

section
variable {α : Type} {n : Nat} {l : List α}

theorem everyEighth_eq_map (long : 8 * n ≤ l.length) (d : α) :
    everyEighth n l = (List.range n).map fun i => l.getD (8 * i) d :=
  List.filterMap_eq_map_iff_forall_eq_some.mpr fun i mem => by
    have := List.mem_range.mp mem
    rw [List.getD_eq_getElem _ _ (by omega), List.getElem?_eq_getElem]

theorem length_everyEighth (long : 8 * n ≤ l.length) : (everyEighth n l).length = n := by
  cases l with
  | nil => simp_all [everyEighth]
  | cons a l => rw [everyEighth_eq_map long a, List.length_map, List.length_range]

theorem getD_everyEighth (long : 8 * n ≤ l.length) {i : Nat} (within : i < n) (d : α) :
    (everyEighth n l).getD i d = l.getD (8 * i) d := by
  rw [everyEighth_eq_map long d, getD_map_of_lt _ _ i 0 d (by rwa [List.length_range]), getD_range_of_lt n i 0 within]

theorem mem_of_mem_everyEighth {a : α} (mem : a ∈ everyEighth n l) : a ∈ l := by
  obtain ⟨i, -, here⟩ := List.mem_filterMap.mp mem
  exact List.mem_of_getElem? here

end

section
variable {f : Frame}

theorem length_makePreview_lines (height : f.samples.length = f.record.height) (kind : PreviewKind) :
    (makePreview f kind).lines.length = f.record.height / 8 := by
  unfold makePreview
  rw [List.length_map, length_everyEighth (by omega)]

theorem length_of_mem_makePreview_lines (width : ∀ row ∈ f.samples, row.length = f.record.width)
    {kind : PreviewKind} {line : List Nat} (mem : line ∈ (makePreview f kind).lines) : line.length = f.record.width / 8 := by
  obtain ⟨row, listed, rfl⟩ := List.mem_map.mp mem
  have := width row (mem_of_mem_everyEighth listed)
  rw [List.length_map, length_everyEighth (by omega)]

theorem makePreview_pixel (height : f.samples.length = f.record.height)
    (width : ∀ row ∈ f.samples, row.length = f.record.width) (kind : PreviewKind) {i j : Nat}
    (column : i < f.record.width / 8) (line : j < f.record.height / 8) :
    ((makePreview f kind).lines.getD j []).getD i 0 = sampleAt f.samples (8 * i) (8 * j) / 16 := by
  have rows : 8 * (f.record.height / 8) ≤ f.samples.length := by omega
  have row : (f.samples.getD (8 * j) []).length = f.record.width := by
    rw [List.getD_eq_getElem _ _ (by omega)]
    exact width _ (List.getElem_mem _)
  have columns : 8 * (f.record.width / 8) ≤ (f.samples.getD (8 * j) []).length := by omega
  unfold makePreview sampleAt
  rw [getD_map_of_lt _ _ j [] [] (by rwa [length_everyEighth rows]), getD_everyEighth rows line,
    getD_map_of_lt _ _ i 0 0 (by rwa [length_everyEighth columns]), getD_everyEighth columns column]

end

/-- Settles O31, by the counter's three cases, and by what every eighth item of the rows and of a row is. -/
theorem previewIsDueMadeOrSkipped : Obligations.PreviewIsDueMadeOrSkipped := by
  refine ⟨fun r f => ⟨fun off => r.previewAtRender_off off f, fun below => r.previewAtRender_counts below f,
      fun on reached => ?due⟩,
    fun f kind height width => ⟨rfl, rfl, rfl, rfl, rfl, rfl, rfl, length_makePreview_lines height kind,
      fun _ mem => length_of_mem_makePreview_lines width mem,
      fun _ _ column line => makePreview_pixel height width kind column line⟩⟩
  case due =>
    rw [Rws.previewAtRender_due on reached]
    unfold Rws.previewDue
    cases r.preview <;> rfl

end Sys2Proof.Machine

/-! # The tables, the commits and SYNC -/

namespace Sys2Proof.Machine

-- With it on, the many small proofs start more threads than the check's limits allow.
set_option Elab.async false

/-! ## Armed commits and the parked SYNC in every operating state (R167, R169) -/

/-- What holds of armed commits and the parked SYNC whatever the operating state: an armed PROFILE or SHADE commit passes
its second check, and a SYNC is parked only while a commit is armed. -/
structure Tbu.Checked (t : Tbu) : Prop where
  passes : ∀ i, i ≠ .column → ∀ e ∈ (t.get i).armed, e = (t.get i).gen
  awaited : t.parked.isSome = true → t.anyArmed = true

/-- What does not linger: beside the checks, outside STREAMING no PROFILE or SHADE commit (R165), nor a COLUMN commit while
no buffer is EXPOSING (R166). -/
theorem commitsDoNotLinger_iff (s : State) :
    CommitsDoNotLinger s ↔
      s.tbu.Checked ∧ (s.fsq.opState ≠ .streaming →
        s.tbu.profile.armed = none ∧ s.tbu.shade.armed = none
          ∧ (s.fsq.buffers.anyExposing = false → s.tbu.column.armed = none)) := by
  constructor
  · rintro ⟨render, exposure, profile, shade, awaited⟩
    refine ⟨⟨fun i other => ?_, awaited⟩, fun idle => ?_⟩
    · cases i with
      | profile => exact profile
      | shade => exact shade
      | column => exact absurd rfl other
    · obtain ⟨noProfile, noShade⟩ := render idle
      exact ⟨noProfile, noShade, exposure idle⟩
  · rintro ⟨⟨passes, awaited⟩, met⟩
    refine ⟨fun idle => ?_, fun idle => ?_, passes .profile nofun, passes .shade nofun, awaited⟩
    · obtain ⟨profile, shade, -⟩ := met idle
      exact ⟨profile, shade⟩
    · obtain ⟨-, -, column⟩ := met idle
      exact column

/-- Arming a commit whose generation matches (R164). -/
theorem Tbu.Checked.arm {t : Tbu} (h : t.Checked) {i : TableId} {e : Nat} (fits : e = (t.get i).gen) :
    (t.set i { t.get i with armed := some e }).Checked where
  passes j other := by
    by_cases same : j = i
    · subst same
      rw [Tbu.get_set_same]
      rintro _ ⟨⟩
      exact fits
    · rw [Tbu.get_set_other _ _ _ _ same]
      exact h.passes j other
  awaited _ := Tbu.anyArmed_of_get (congrArg TableState.armed (t.get_set_same i _))

/-- Once a parked SYNC is looked at, it stays parked only for an armed commit. -/
theorem answerSync_awaited (s : State) :
    (answerSync s).tbu.parked.isSome = true → (answerSync s).tbu.anyArmed = true := by
  unfold answerSync
  split
  · next unparked => simp [unparked]
  · split
    · next armed => exact fun _ => armed
    · exact nofun

theorem applyCommit_checked (i : TableId) (p : CommitPoint) {s : State} (h : s.tbu.Checked) :
    (applyCommit i p s).tbu.Checked where
  passes j other := by
    by_cases same : j = i
    · subst same
      rw [applyCommit_armed]
      nofun
    · rw [applyCommit_other i j p s same]
      exact h.passes j other
  awaited := by
    cases armed : (s.tbu.get i).armed with
    | none => rw [applyCommit_of_not_armed armed]; exact h.awaited
    | some e => rw [applyCommit_of_armed armed]; exact answerSync_awaited _

theorem applyRenderCommits_checked (n : Nat) {s : State} (h : s.tbu.Checked) : (applyRenderCommits n s).tbu.Checked :=
  applyCommit_checked _ _ (applyCommit_checked _ _ h)

theorem applyIdleCommits_checked {s : State} (h : s.tbu.Checked) : (applyIdleCommits s).tbu.Checked := by
  have both := applyCommit_checked .shade .atOnce (applyCommit_checked .profile .atOnce h)
  unfold applyIdleCommits
  dsimp only
  split_ifs
  · exact h
  · exact both
  · exact applyCommit_checked .column .atOnce both

/-- Whatever was armed: once the commits that can be applied are applied, none lingers. -/
theorem applyIdleCommits_doNotLinger {s : State} (h : s.tbu.Checked) : CommitsDoNotLinger (applyIdleCommits s) := by
  refine (commitsDoNotLinger_iff _).mpr ⟨applyIdleCommits_checked h, fun idle => ?_⟩
  rw [(SameCapture.applyIdleCommits s).fsq] at idle ⊢
  obtain ⟨profile, shade, column⟩ := applyIdleCommits_tables idle
  refine ⟨by rw [profile, TableState.met_armed], by rw [shade, TableState.met_armed], fun dark => ?_⟩
  rw [column, if_neg (by simp [dark]), TableState.met_armed]

/-! ## EXPOSING buffers -/

theorem Buffers.anyExposing_iff (b : Buffers) : b.anyExposing = true ↔ ∃ i, (b.get i).exposing?.isSome = true :=
  b.any_iff _

/-- An exposure in a buffer is one in flight. -/
theorem Buffers.anyExposing_set_exposing (b : Buffers) (i : BufferId) (r : ExposureRecord) (p : ExposurePhase) :
    (b.set i (.exposing r p)).anyExposing = true :=
  (Buffers.anyExposing_iff _).mpr ⟨i, by rw [Buffers.get_set_same]; rfl⟩

/-- A buffer that is not EXPOSING can take any state: the exposures in flight stay. -/
theorem Buffers.anyExposing_set {b : Buffers} {i : BufferId} (v : Buffer) (other : (b.get i).exposing? = none)
    (h : b.anyExposing = true) : (b.set i v).anyExposing = true := by
  obtain ⟨j, exposing⟩ := b.anyExposing_iff.mp h
  refine (Buffers.anyExposing_iff _).mpr ⟨j, ?_⟩
  have different : j ≠ i := by
    rintro rfl
    rw [other] at exposing
    cases exposing
  rwa [Buffers.get_set_other _ _ _ _ different]

/-! ## Operations after which no commit lingers (R165, R166) -/

/-- An operation that keeps commits from lingering. A clause not given is that of an operation that leaves the operating
state, the buffers, the armed commits with their generations, and the parked SYNC as they are. -/
structure KeepsCommits (s t : State) : Prop where
  lingers : CommitsDoNotLinger s → CommitsDoNotLinger t := by exact id

namespace KeepsCommits

theorem refl (s : State) : KeepsCommits s s := {}

theorem trans {s t u : State} (h : KeepsCommits s t) (h' : KeepsCommits t u) : KeepsCommits s u :=
  ⟨h'.lingers ∘ h.lingers⟩

/-- In STREAMING commits wait for their application points: only the checks matter. -/
theorem of_streaming {s t : State} (streaming : t.fsq.opState = .streaming)
    (checked : s.tbu.Checked → t.tbu.Checked := by exact id) : KeepsCommits s t where
  lingers h := by
    obtain ⟨before, -⟩ := (commitsDoNotLinger_iff s).mp h
    exact (commitsDoNotLinger_iff t).mpr ⟨checked before, fun other => absurd streaming other⟩

/-- An operation that ends with what can be applied at once may change the operating state and the buffers at will. -/
theorem thenApplyIdleCommits {s u : State} (checked : s.tbu.Checked → u.tbu.Checked := by exact id) :
    KeepsCommits s (Machine.applyIdleCommits u) where
  lingers h := by
    obtain ⟨before, -⟩ := (commitsDoNotLinger_iff s).mp h
    exact applyIdleCommits_doNotLinger (checked before)

/-- A change of operating state ends so (R165, R166). -/
theorem thenSetOpState {s u : State} (op : OpState) (checked : s.tbu.Checked → u.tbu.Checked := by exact id) :
    KeepsCommits s (Machine.setOpState op u) :=
  thenApplyIdleCommits checked

/-- FSQ changes where the operating state and an exposure in flight stay. -/
theorem fsq_set (s : State) (f : Fsq) (exposing : s.fsq.buffers.anyExposing = true → f.buffers.anyExposing = true)
    (op : f.opState = s.fsq.opState := by rfl) : KeepsCommits s { s with fsq := f } where
  lingers h := by
    obtain ⟨checked, met⟩ := (commitsDoNotLinger_iff s).mp h
    refine (commitsDoNotLinger_iff _).mpr ⟨checked, fun idle => ?_⟩
    obtain ⟨profile, shade, column⟩ := met (op ▸ idle)
    refine ⟨profile, shade, fun dark => column (Bool.not_eq_true _ ▸ fun inFlight => ?_)⟩
    exact Bool.false_ne_true (dark.symm.trans (exposing inFlight))

theorem settle (s : State) : KeepsCommits s (settle s) where
  lingers := by simp only [CommitsDoNotLinger, settle_fsq, settle_tbu]; exact id

theorem raise (i : ControlItem) (s : State) : KeepsCommits s (raise i s) := {}

theorem raiseEvent (e : Event) (s : State) : KeepsCommits s (raiseEvent e s) := raise (.event e) s

theorem stopTest (s : State) : KeepsCommits s (stopTest s) := by
  unfold Machine.stopTest
  split
  · exact .trans (thenSetOpState .idle) (raiseEvent _ _)
  · exact refl s

/-! ### Exposures (R44 to R46) -/

/-- An exposure start applies an armed COLUMN commit itself (R166). -/
theorem startExposure (kind : FrameKind) (i : BufferId) (s : State) : KeepsCommits s (startExposure kind i s) where
  lingers h := by
    obtain ⟨checked, met⟩ := (commitsDoNotLinger_iff s).mp h
    rw [startExposure_eq]
    refine (commitsDoNotLinger_iff _).mpr ⟨applyCommit_checked _ _ checked, fun idle => ?_⟩
    obtain ⟨profile, shade, -⟩ := met idle
    have other (j : TableId) (h : j ≠ .column) := applyCommit_other .column j
      (.exposureStart ((s.fsq.frameCounter + 1) % 4294967296)) s h
    exact ⟨(congrArg TableState.armed (other .profile nofun)).trans profile,
      (congrArg TableState.armed (other .shade nofun)).trans shade, fun _ => applyCommit_armed .column _ s⟩

theorem timerExpiry (s : State) : KeepsCommits s (timerExpiry s) := by
  have expired (u : State) : KeepsCommits u (expire u) := by
    unfold expire
    split
    · exact {}
    · split
      · exact {}
      · exact startExposure ..
  unfold Machine.timerExpiry
  split
  · exact refl s
  · exact .trans (t := { s with fsq := { s.fsq with timer := some s.fsq.sensor.period } }) {} (expired _)

theorem exposureMidpoint (s : State) : KeepsCommits s (exposureMidpoint s) := by
  unfold Machine.exposureMidpoint
  split
  case h_1 => exact fsq_set s _ fun _ => Buffers.anyExposing_set_exposing ..
  all_goals exact refl s

theorem exposureEnd (s : State) : KeepsCommits s (exposureEnd s) := by
  unfold Machine.exposureEnd
  split
  case h_1 => exact fsq_set s _ fun _ => Buffers.anyExposing_set_exposing ..
  all_goals exact refl s

/-! ### Renders and trials -/

/-- A render start applies the armed PROFILE and SHADE commits, in STREAMING (R165). -/
theorem tryRenderStart (s : State) : KeepsCommits s (tryRenderStart s) := by
  unfold Machine.tryRenderStart
  split
  case isFalse => exact refl s
  case isTrue streaming =>
    split
    · split
      case h_1 =>
        rw [startRender_eq]
        exact of_streaming streaming (applyRenderCommits_checked _)
      all_goals exact refl s
    all_goals exact refl s

/-- The buffer that leaves RENDERING is not EXPOSING. -/
theorem releaseBuffer {i : BufferId} {f : Frame} {s : State} (rendering : s.fsq.buffers.get i = .rendering f) :
    KeepsCommits s (releaseBuffer i f s) := by
  have other : (s.fsq.buffers.get i).exposing? = none := by rw [rendering]; rfl
  unfold Machine.releaseBuffer
  split
  · exact .trans (fsq_set s _ (Buffers.anyExposing_set (.held f) other)) (raiseEvent _ _)
  · exact fsq_set s _ (Buffers.anyExposing_set .free other)

theorem finishRender {w : RenderWork} {f : Frame} {s : State} (rendering : s.fsq.buffers.get w.buffer = .rendering f) :
    KeepsCommits s (finishRender w f s) := by
  have updated (u : Ilc) : KeepsCommits s { s with ilc := u, geo := .idle } := {}
  have reported (u : State) : KeepsCommits u (reportPhaseErrors u) := by
    unfold reportPhaseErrors
    split <;> exact {}
  exact (((updated _).trans (releaseBuffer rendering)).trans (raise _ _)).trans
    ((reported _).trans ((tryRenderStart _).trans (stopTest _)))

theorem rowCompletion (s : State) : KeepsCommits s (rowCompletion s) := by
  unfold Machine.rowCompletion completeRow
  split
  case h_1 w _ =>
    split
    case h_2 => exact refl s
    case h_1 item f _ rendering =>
      have handed (pixels : List Pixel) : KeepsCommits s (handOn w.context item pixels s) := by
        rw [handOn_frame]
        exact {}
      dsimp only
      split
      · exact (handed _).trans (finishRender (by rwa [(SameCapture.handOn ..).fsq]))
      · exact (handed _).trans {}
  all_goals exact refl s

theorem storeTrialRow (w : TrialWork) (e : RowEntry) (s : State) : KeepsCommits s (storeTrialRow w e s) := by
  unfold Machine.storeTrialRow
  dsimp only
  split <;> exact {}

theorem trialRowCompletion (s : State) : KeepsCommits s (trialRowCompletion s) := by
  unfold Machine.trialRowCompletion offerTrialRow
  split
  case h_1 =>
    split
    · split
      · exact storeTrialRow ..
      · exact {}
    · exact refl s
  all_goals exact refl s

theorem wallReportSent (s : State) : KeepsCommits s (wallReportSent s) := by
  have resumed (u : State) : KeepsCommits u (resumeTrial u) := by
    unfold resumeTrial
    split
    case h_1 =>
      split
      · exact storeTrialRow ..
      · exact refl u
    all_goals exact refl u
  unfold Machine.wallReportSent
  split
  · exact .trans (t := fillChanged { freeDownlink s with rws := s.rws.wallSent }) {} (resumed _)
  · exact refl s

/-! ### Readouts (R47, R60) -/

/-- The sixteenth calibration readout moves COLUMN's generation, and no other (R61): a commit of COLUMN may be cancelled,
those of PROFILE and SHADE pass their second check as before. -/
theorem completeCalibration_checked (r : ExposureRecord) {s : State} (h : s.tbu.Checked) :
    (completeCalibration r s).tbu.Checked where
  passes i other := by
    cases i with
    | profile | shade => exact h.passes _ other
    | column => exact absurd rfl other
  awaited := h.awaited

theorem calibrationReadout {s u : State} (r : ExposureRecord) (rows : List (List Nat)) (tables : u.tbu = s.tbu) :
    KeepsCommits s (calibrationReadout r rows u) := by
  unfold Machine.calibrationReadout
  dsimp only
  split
  · exact thenSetOpState .idle fun h => completeCalibration_checked r (tables ▸ h)
  · exact thenApplyIdleCommits fun h => tables ▸ h

theorem streamReadout (i : BufferId) (f : Frame) (s : State) : KeepsCommits s (streamReadout i f s) := by
  unfold Machine.streamReadout
  split
  case isTrue streaming =>
    refine .trans ?_ (tryRenderStart _)
    exact of_streaming streaming
  case isFalse => exact .trans thenApplyIdleCommits (stopTest _)

theorem readoutCompletion (raw : List (List Sample)) (s : State) : KeepsCommits s (readoutCompletion raw s) := by
  unfold Machine.readoutCompletion
  split
  case h_1 =>
    dsimp only
    split
    · exact streamReadout ..
    · exact .trans thenApplyIdleCommits ((tryRenderStart _).trans (stopTest _))
    · exact calibrationReadout _ _ rfl
    · exact .trans thenApplyIdleCommits (raiseEvent _ _)
  all_goals exact refl s

/-! ### Commands -/

/-- TABLE WRITE changes the pending copy alone (R161). -/
theorem cmdTableWrite (table : Byte) (start : Half) (values : List Half) (s : State) :
    KeepsCommits s (cmdTableWrite table start values s).1 := by
  unfold Machine.cmdTableWrite
  split
  · exact refl s
  · next i _ =>
    split
    · exact refl s
    · cases i <;> exact {}

/-- COMMIT arms after its check of the generation, and applies what can be applied (R164, R165, R166). -/
theorem cmdCommit (table : Byte) (expected : Half) (s : State) : KeepsCommits s (cmdCommit table expected s).1 := by
  unfold Machine.cmdCommit
  split
  · exact refl s
  · dsimp only
    split_ifs with armed differs
    · exact refl s
    · exact refl s
    · exact thenApplyIdleCommits fun h => h.arm (not_not.mp differs)

/-- SYNC parks while a commit is armed (R169). -/
theorem cmdSync (tag : Byte) (s : State) : KeepsCommits s (answerOrPark tag (cmdSync tag s)) := by
  unfold Machine.cmdSync
  split_ifs with parked armed
  · exact {}
  · exact ⟨fun ⟨render, exposure, profile, shade, _⟩ => ⟨render, exposure, profile, shade, fun _ => armed⟩⟩
  · exact {}

theorem cmdSensor (r : SensorFields) (s : State) : KeepsCommits s (cmdSensor r s).1 := by
  unfold Machine.cmdSensor
  split
  · exact refl s
  · split
    · exact refl s
    · dsimp only
      split
      · exact refl s
      · split
        · exact refl s
        · dsimp only
          split
          · exact thenSetOpState .idle
          · exact {}

theorem cmdCalibrate (s : State) : KeepsCommits s (cmdCalibrate s).1 := by
  unfold Machine.cmdCalibrate
  split_ifs
  · exact refl s
  · exact refl s
  · exact thenSetOpState .calibrating

theorem cmdStart (s : State) : KeepsCommits s (cmdStart s).1 := by
  unfold Machine.cmdStart
  split_ifs
  case neg => exact thenSetOpState .streaming
  all_goals exact refl s

theorem cmdStop (s : State) : KeepsCommits s (cmdStop s).1 := by
  unfold Machine.cmdStop
  split
  case h_3 =>
    rw [stopCalibration_eq]
    exact thenSetOpState .idle
  case h_4 => exact .trans (thenSetOpState .stopping) (stopTest _)
  all_goals exact refl s

theorem cmdHold (s : State) : KeepsCommits s (cmdHold s).1 := by
  unfold Machine.cmdHold
  dsimp only
  split
  case h_4 => split_ifs <;> exact {}
  case h_5 =>
    split_ifs
    · exact refl s
    · split
      · exact startExposure ..
      · exact refl s
  all_goals exact refl s

/-- The buffer that RELEASE frees is not EXPOSING (R53). -/
theorem cmdRelease (s : State) : KeepsCommits s (cmdRelease s).1 := by
  unfold Machine.cmdRelease
  split
  · exact refl s
  · split
    · next held =>
      split
      · exact {}
      · exact fsq_set s _ (Buffers.anyExposing_set .free (by rw [Buffers.get_of_heldFrame held]; rfl))
    · split_ifs <;> exact {}

theorem resetStream (s : State) : KeepsCommits s (resetStream s) := by
  have tables (u : State) : (resetCalibration u).tbu = u.tbu := by
    obtain ⟨kept, -⟩ := keepDelivered_frame u
    unfold resetCalibration
    split
    · dsimp only
      rw [kept, raiseEvent_tbu]
    · rfl
  unfold Machine.resetStream
  dsimp only
  refine thenSetOpState _ fun h => ?_
  dsimp only
  rw [tables]
  exact h

theorem fullReset (s : State) : KeepsCommits s (fullReset s) where
  lingers _ := commitsDoNotLinger_powerOn ..

theorem runCommand (tag : Byte) (c : Command) (s : State) : KeepsCommits s (runCommand tag c s) := by
  have answered {r : State × Answer} (h : KeepsCommits s r.1) : KeepsCommits s (answer tag r) := h.trans {}
  cases c with
  | tableWrite table start values => exact answered (cmdTableWrite table start values s)
  | commit table expected => exact answered (cmdCommit table expected s)
  | sync => exact cmdSync tag s
  | sensor r => exact answered (cmdSensor r s)
  | calibrate => exact answered (cmdCalibrate s)
  | start => exact answered (cmdStart s)
  | stop => exact answered (cmdStop s)
  | hold => exact answered (cmdHold s)
  | release => exact answered (cmdRelease s)
  | resetStream => exact answered (resetStream s)
  | resetFull => exact answered (fullReset s)
  -- The others leave the operating state, the buffers and the tables as they are.
  | unknown _ | malformed | identify _ | status => exact {}
  | strip r => exact answered (by unfold cmdStrip; split_ifs <;> exact {})
  | light r => exact answered (by unfold cmdLight; split <;> exact {})
  | centre r =>
    refine answered ?_
    unfold cmdCentre
    split
    · exact {}
    · split <;> exact {}
  | odometer r => exact answered (by unfold cmdOdometer; split_ifs <;> exact {})
  | dark n => exact answered (by unfold cmdDark; split <;> exact {})
  | advisory r => exact answered (by unfold cmdAdvisory; split_ifs <;> exact {})
  | preview n => exact answered (by unfold cmdPreview; split <;> exact {})
  | preset x => exact answered (by unfold cmdPreset; split_ifs <;> exact {})
  | tableRead table copy start count =>
    refine answered ?_
    unfold cmdTableRead
    repeat' split
    all_goals exact {}
  | relight => exact answered (by unfold cmdRelight; split <;> exact {})
  | rerender =>
    refine answered ?_
    unfold cmdRerender
    repeat' split
    all_goals exact {}
  | note text =>
    refine answered ?_
    unfold cmdNote
    split
    · exact {}
    · split <;> exact {}

end KeepsCommits

theorem keepsCommits_keptByParts : KeptByParts KeepsCommits where
  refl := .refl
  trans := .trans
  link _ _ := {}
  pending _ _ := {}
  tick _ := {}
  settle := .settle
  runCommand := .runCommand
  fullReset := .fullReset
  timerExpiry := .timerExpiry
  exposureMidpoint := .exposureMidpoint
  exposureEnd := .exposureEnd
  readoutCompletion := .readoutCompletion
  rowCompletion := .rowCompletion
  trialRowCompletion := .trialRowCompletion
  wallReportSent := .wallReportSent
  markerReportSent s := by unfold markerReportSent; split <;> exact {}
  previewTileSent s := by unfold previewTileSent; split <;> exact {}
  transition _ _ _ := {}
  closeWindow _ := {}
  receiveLine _ _ := {}
  gatherLine _ _ := {}
  lineSent _ := {}
  advisoryRepeat _ := {}

/-- Settles O58: an operation that leaves STREAMING, or takes an exposure out of flight outside it, ends with what can be
applied at once. The coherence of the buffers is not needed. -/
theorem everyStepKeepsCommitsFromLingering : Obligations.EveryStepKeepsCommitsFromLingering :=
  fun s t _ before h => (keepsCommits_keptByParts.step s t h).lingers before

end Sys2Proof.Machine

namespace Sys2Proof.Machine

-- With it on, the many small proofs start more threads than the check's limits allow.
set_option Elab.async false

/-! ## The commands of TBU that are answered at once (R175, R177) -/

theorem exec_tableWrite_at_once (tag table : Byte) (start : Half) (values : List Half) (s : State) (ready : Ready s) :
    exec (.tableWrite tag table start values) s
      = .next (replied tag (cmdTableWrite table start values s).2.code (cmdTableWrite table start values s).2.payload
          (cmdTableWrite table start values s).1) :=
  congrArg Host.Outcome.next (arrive_answered ready rfl)

theorem exec_tableRead_at_once (tag table copy : Byte) (start count : Half) (s : State) (ready : Ready s) :
    exec (.tableRead tag table copy start count) s
      = .next (replied tag (cmdTableRead table copy start count s).2.code
          (cmdTableRead table copy start count s).2.payload (cmdTableRead table copy start count s).1) :=
  congrArg Host.Outcome.next (arrive_answered ready rfl)

theorem exec_commit_at_once (tag table : Byte) (expected : Half) (s : State) (ready : Ready s) :
    exec (.commit tag table expected) s
      = .next (replied tag (cmdCommit table expected s).2.code (cmdCommit table expected s).2.payload
          (cmdCommit table expected s).1) :=
  congrArg Host.Outcome.next (arrive_answered ready rfl)

/-- SYNC may be taken without an answer (R169). -/
theorem exec_sync_at_once (tag : Byte) (s : State) (ready : Ready s) :
    exec (.sync tag) s = .next (settle (answerOrPark tag (cmdSync tag s))) :=
  congrArg Host.Outcome.next (arrive_at_once tag .sync s ready)

/-! ## The tables by their bytes and by name (R159, R189) -/

theorem tableOf_eq_none_of_not_mem {table : Byte} (h : table ∉ [1, 2, 3]) : tableOf table = none := by
  simp only [List.mem_cons, List.not_mem_nil, or_false, not_or] at h
  obtain ⟨profile, shade, column⟩ := h
  rw [tableOf, if_neg profile, if_neg shade, if_neg column]

theorem tableOf_eq_some_of_mem {table : Byte} {i : TableId}
    (h : (table, i) ∈ [((1 : Byte), TableId.profile), (2, .shade), (3, .column)]) : tableOf table = some i := by
  simp only [List.mem_cons, List.not_mem_nil, or_false, Prod.mk.injEq] at h
  obtain ⟨rfl, rfl⟩ | ⟨rfl, rfl⟩ | ⟨rfl, rfl⟩ := h <;> rfl

theorem Tbu.get_set (t : Tbu) (i j : TableId) (v : TableState) : (t.set i v).get j = if j = i then v else t.get j := by
  split
  case isTrue same => rw [same, Tbu.get_set_same]
  case isFalse other => exact t.get_set_other i j v other

/-! ## TABLE WRITE and TABLE READ (R161, R163) -/

/-- TABLE WRITE's check of the count and the range. -/
theorem tableWriteBad_iff (i : TableId) (start : Nat) (values : List Half) :
    (values.isEmpty || 1024 < values.length || i.entries < start + values.length) = true
      ↔ values.length = 0 ∨ 1024 < values.length ∨ i.entries < start + values.length := by
  simp [or_assoc]

theorem cmdTableWrite_none {table : Byte} (unnamed : tableOf table = none) (start : Half) (values : List Half) (s : State) :
    cmdTableWrite table start values s = (s, .bad) := by
  rw [cmdTableWrite, unnamed]

/-- TABLE WRITE on a table: refused, or the clamped values over the entries of the pending copy. -/
theorem cmdTableWrite_some {table : Byte} {i : TableId} (named : tableOf table = some i) (start : Half)
    (values : List Half) (s : State) :
    cmdTableWrite table start values s =
      if values.length = 0 ∨ 1024 < values.length ∨ i.entries < start.toNat + values.length then (s, .bad)
      else
        ({ s with
            tbu := s.tbu.set i
              { s.tbu.get i with
                pending := (s.tbu.get i).pending.take start.toNat ++ values.map (fun v => min v.toNat i.top)
                  ++ (s.tbu.get i).pending.drop (start.toNat + values.length) } },
          ⟨if values.any (fun v => decide (i.top < v.toNat)) then .clamped else .ok, []⟩) := by
  rw [cmdTableWrite, named]
  simp only [tableWriteBad_iff, writeEntries, List.length_map, Answer.okOrClamped]

/-- The copies have the bytes 0 and 1. -/
theorem TableState.copyOf_eq (t : TableState) (copy : Byte) :
    t.copyOf copy = if copy ≠ 0 ∧ copy ≠ 1 then none else some (if copy = 0 then t.active else t.pending) := by
  unfold TableState.copyOf
  by_cases active : copy = 0
  · subst active; rfl
  · by_cases pending : copy = 1
    · subst pending; rfl
    · rw [if_neg active, if_neg pending, if_pos ⟨active, pending⟩]

/-- What TABLE READ answers, with the armed commit's expected generation behind its mark of presence (log 14). -/
theorem tableReadResult_eq (i : TableId) (t : TableState) (copy : Byte) (entries : List Nat) (start count : Nat) :
    tableReadResult i t copy entries start count =
      leBytes 1 i.code ++ [copy] ++ leBytes 2 start ++ leBytes 2 count ++ leBytes 2 t.gen
        ++ (match t.armed with
          | some e => leBytes 1 1 ++ leBytes 1 0 ++ leBytes 2 e
          | none => leBytes 1 0 ++ leBytes 1 0 ++ leBytes 2 0)
        ++ ((entries.drop start).take count).flatMap (leBytes 2) := by
  unfold tableReadResult
  cases t.armed <;> simp only [List.append_assoc] <;> rfl

theorem cmdTableRead_none {table : Byte} (unnamed : tableOf table = none) (copy : Byte) (start count : Half) (s : State) :
    cmdTableRead table copy start count s = (s, .bad) := by
  rw [cmdTableRead, unnamed]

/-- TABLE READ on a table: refused, or the entries of the chosen copy as they stand. -/
theorem cmdTableRead_some {table : Byte} {i : TableId} (named : tableOf table = some i) (copy : Byte)
    (start count : Half) (s : State) :
    cmdTableRead table copy start count s =
      if copy ≠ 0 ∧ copy ≠ 1 ∨ count.toNat = 0 ∨ 1024 < count.toNat ∨ i.entries < start.toNat + count.toNat then (s, .bad)
      else
        (s, .okWith (tableReadResult i (s.tbu.get i) copy
          (if copy = 0 then (s.tbu.get i).active else (s.tbu.get i).pending) start.toNat count.toNat)) := by
  rw [cmdTableRead, named]
  dsimp only
  rw [TableState.copyOf_eq]
  by_cases other : copy ≠ 0 ∧ copy ≠ 1
  · rw [if_pos other, if_pos (.inl other)]
  · simp only [if_neg other, or_iff_right other]

/-- Settles O15: the two commands from their answers to a byte that names no table and to one that names a table. -/
theorem tableWritesAndReads : Obligations.TableWritesAndReads := by
  refine ⟨fun tag table start values s ready => ?write, fun tag table copy start count s ready => ?read,
    fun _ => rfl, fun t i j u => ⟨⟨rfl, rfl, rfl⟩, t.get_set i j u, t.set_parked i u⟩, rfl, rfl⟩
  case write =>
    rw [exec_tableWrite_at_once tag table start values s ready]
    refine ⟨fun unnamed => ?_, fun i named => ?_⟩
    · rw [cmdTableWrite_none unnamed]
      rfl
    · rw [cmdTableWrite_some named]
      dsimp only
      split <;> rfl
  case read =>
    rw [exec_tableRead_at_once tag table copy start count s ready]
    refine ⟨fun unnamed => ?_, fun i named => ?_⟩
    · rw [cmdTableRead_none unnamed]
      rfl
    · rw [cmdTableRead_some named, tableReadResult_eq]
      dsimp only
      split <;> rfl

/-! ## COMMIT and the application of an armed commit (R164, R167) -/

theorem cmdCommit_none {table : Byte} (unnamed : tableOf table = none) (expected : Half) (s : State) :
    cmdCommit table expected s = (s, .bad) := by
  rw [cmdCommit, unnamed]

/-- COMMIT on a table, by the checks of R164 in their order. -/
theorem cmdCommit_some {table : Byte} {i : TableId} (named : tableOf table = some i) (expected : Half) (s : State) :
    cmdCommit table expected s =
      if (s.tbu.get i).armed.isSome = true then (s, .busy)
      else if expected.toNat ≠ (s.tbu.get i).gen then (s, ⟨.stale, leBytes 2 (s.tbu.get i).gen⟩)
      else
        (applyIdleCommits { s with tbu := s.tbu.set i { s.tbu.get i with armed := some expected.toNat } }, .ok) := by
  rw [cmdCommit, named]

/-- A commit that passes its second check is applied, and the event says so. -/
theorem applyCommit_of_fits {s : State} {i : TableId} (armed : (s.tbu.get i).armed = some (s.tbu.get i).gen)
    (p : CommitPoint) :
    applyCommit i p s =
      answerSync (raiseEvent (.commitApplied i (nextGen (s.tbu.get i).gen) p)
        { s with tbu := s.tbu.set i (s.tbu.get i).apply }) := by
  unfold applyCommit
  simp [armed]

/-- A commit that fails its second check is disarmed, and the event says so. -/
theorem applyCommit_of_differs {s : State} {i : TableId} {e : Nat} (armed : (s.tbu.get i).armed = some e)
    (differs : e ≠ (s.tbu.get i).gen) (p : CommitPoint) :
    applyCommit i p s =
      answerSync (raiseEvent (.commitCancelled i e (s.tbu.get i).gen)
        { s with tbu := s.tbu.set i { s.tbu.get i with armed := none } }) := by
  unfold applyCommit
  simp [armed, differs]

/-- Settles O16: COMMIT check by check, and an application by its second check. -/
theorem commitArmsAndApplicationChecksAgain : Obligations.CommitArmsAndApplicationChecksAgain := by
  refine ⟨fun tag table expected s ready => ?command, fun i p s => ⟨(applyCommit_of_not_armed · p), fun e armed => ?point⟩⟩
  case command =>
    rw [exec_commit_at_once tag table expected s ready]
    refine ⟨fun other => ?_, fun i named => ?_⟩
    · rw [cmdCommit_none (tableOf_eq_none_of_not_mem other)]
      rfl
    · rw [cmdCommit_some (tableOf_eq_some_of_mem named)]
      dsimp only
      by_cases armed : (s.tbu.get i).armed.isSome = true
      · rw [if_pos armed, if_pos armed]
        rfl
      · by_cases differs : expected.toNat ≠ (s.tbu.get i).gen
        · rw [if_neg armed, if_neg armed, if_pos differs, if_pos differs]
        · rw [if_neg armed, if_neg armed, if_neg differs, if_neg differs]
          rfl
  case point =>
    by_cases fits : e = (s.tbu.get i).gen
    · rw [if_pos fits, applyCommit_of_fits (fits ▸ armed)]
      rfl
    · rw [if_neg fits, applyCommit_of_differs armed fits]

/-! ## SYNC (R169) -/

/-- A parked SYNC is answered with the generations once no commit is armed. -/
theorem answerSync_of_parked {s : State} {tag : Byte} (parked : s.tbu.parked = some tag) :
    answerSync s =
      if s.tbu.anyArmed = true then s
      else putReply ⟨tag, .ok, s.tbu.generations, false⟩ { s with tbu := { s.tbu with parked := none } } := by
  rw [answerSync, parked]

/-- Settles O17: the command by its three cases, and the parked SYNC by whether a commit is armed. -/
theorem syncWaitsForTheArmedCommits : Obligations.SyncWaitsForTheArmedCommits := by
  refine ⟨fun tag s ready => ?_, fun tag s => answerSync_of_parked⟩
  rw [exec_sync_at_once tag s ready]
  unfold cmdSync
  by_cases parked : s.tbu.parked.isSome = true
  · rw [if_pos parked, if_pos parked]
    rfl
  · by_cases armed : s.tbu.anyArmed = true
    · rw [if_neg parked, if_neg parked, if_pos armed, if_pos armed]
      rfl
    · rw [if_neg parked, if_neg parked, if_neg armed, if_neg armed]
      rfl

end Sys2Proof.Machine

/-! # The tether link: the receiver, the command queue, the commands as messages, and the queries -/

namespace Sys2Proof.Machine

-- With it on, the many small proofs start more threads than the check's limits allow.
set_option Elab.async false

/-! ## The receiver goes through a message (R173, R174) -/

/-- A sync pair opens the header; what stands in front of it is passed over. -/
theorem feedBytes_syncPair {noise : List Byte} {s : State} (hunting : s.lnk.rx = .hunt)
    (noPair : ∀ front behind, noise ≠ front ++ 0xA5 :: 0x5A :: behind) :
    feedBytes (noise ++ [0xA5, 0x5A]) s = setRx (.header []) s :=
  calc feedBytes (noise ++ [0xA5, 0x5A]) s
      = feedBytes [0x5A] (feedBytes (noise ++ [0xA5]) s) := by rw [← feedBytes_append]; simp
    _ = feedByte (setRx .sync s) 0x5A := by rw [feedBytes_noise noise s hunting noPair, feedBytes_cons, feedBytes_nil]
    _ = setRx (.header []) s := rfl

/-! A byte of the header, and of the CRC. -/

theorem feedByte_header {got : List Byte} (short : got.length < 3) (b : Byte) (s : State) :
    feedByte (setRx (.header got) s) b = setRx (.header (got ++ [b])) s := by
  match got, short with
  | [], _ => rfl
  | [_], _ => rfl
  | [_, _], _ => rfl

theorem feedByte_header_last (kind tag lo hi : Byte) (s : State) :
    feedByte (setRx (.header [kind, tag, lo]) s) hi = lengthKnown kind tag (half lo hi).toNat s := by
  change lengthKnown kind tag (half lo hi).toNat (setRx (.header [kind, tag, lo]) s) = _
  unfold lengthKnown
  split_ifs <;> rfl

theorem feedByte_check_first (kind tag low : Byte) (payload : List Byte) (s : State) :
    feedByte (setRx (.check kind tag payload none) s) low = setRx (.check kind tag payload (some low)) s := rfl

theorem feedByte_check_last (kind tag low high : Byte) (payload : List Byte) (s : State) :
    feedByte (setRx (.check kind tag payload (some low)) s) high = judge kind tag payload (half low high) s := by
  change judge kind tag payload (half low high) (setRx (.check kind tag payload (some low)) s) = _
  unfold judge
  split_ifs <;> rfl

/-- The header is judged by its length. -/
theorem feedBytes_header (kind tag : Byte) (length : Nat) (s : State) (short : length < 65536) :
    feedBytes ([kind, tag] ++ leBytes 2 length) (setRx (.header []) s) = lengthKnown kind tag length s := by
  simp only [leBytes, List.cons_append, List.nil_append, feedBytes_cons, feedBytes_nil]
  rw [feedByte_header (by simp), feedByte_header (by simp), feedByte_header (by simp)]
  simp only [List.cons_append, List.nil_append]
  rw [feedByte_header_last, half_of_leBytes length short]

/-- What the CRC covers leaves the receiver waiting for the CRC. -/
theorem feedBytes_covered (kind tag : Byte) (payload : List Byte) (s : State) (fits : payload.length ≤ 4096) :
    feedBytes ([kind, tag] ++ leBytes 2 payload.length ++ payload) (setRx (.header []) s) =
      setRx (.check kind tag payload none) s := by
  rw [feedBytes_append, feedBytes_header kind tag payload.length s (by omega), lengthKnown, if_neg (not_lt.mpr fits)]
  by_cases empty : payload = []
  · subst empty
    rfl
  · rw [if_neg (mt List.length_eq_zero_iff.mp empty)]
    exact feedBytes_payload kind tag payload.length payload [] s empty (Nat.zero_add _)

/-- A message that reaches a hunting receiver is judged by its CRC bytes. -/
theorem feedBytes_message {noise payload : List Byte} (kind tag low high : Byte) {s : State}
    (hunting : s.lnk.rx = .hunt) (fits : payload.length ≤ 4096)
    (noPair : ∀ front behind, noise ≠ front ++ 0xA5 :: 0x5A :: behind) :
    feedBytes (noise ++ [0xA5, 0x5A] ++ ([kind, tag] ++ leBytes 2 payload.length ++ payload) ++ [low, high]) s =
      judge kind tag payload (half low high) s := by
  rw [feedBytes_append, feedBytes_append, feedBytes_syncPair hunting noPair, feedBytes_covered kind tag payload s fits,
    feedBytes_cons, feedBytes_cons, feedBytes_nil, feedByte_check_first, feedByte_check_last]

/-- A message with the right CRC is counted, and its command delivered. -/
theorem judge_of_crc {kind tag : Byte} {payload : List Byte} {received : BitVec 16} {s : State}
    (hunting : s.lnk.rx = .hunt) (right : received = crc (covered kind tag payload)) :
    judge kind tag payload received s =
      deliver ⟨tag, parseCommand kind payload⟩
        { s with lnk := { s.lnk with accepted := min (s.lnk.accepted + 1) 4294967295 } } := by
  rw [judge, if_pos right, ← hunting]
  rfl

/-- A message with another CRC is discarded and counted. -/
theorem judge_of_crc_fault {kind tag : Byte} {payload : List Byte} {received : BitVec 16} {s : State}
    (hunting : s.lnk.rx = .hunt) (wrong : received ≠ crc (covered kind tag payload)) :
    judge kind tag payload received s =
      { s with lnk := { s.lnk with crcFaults := min (s.lnk.crcFaults + 1) 4294967295 } } := by
  rw [judge, if_neg wrong, ← hunting]
  rfl

/-- Settles O4: the receiver goes through the message to its CRC, which is the one computed. -/
theorem wholeMessageIsAccepted : Obligations.WholeMessageIsAccepted := by
  intro kind tag noise payload s hunting fits noPair covered
  refine congrArg (fun t => Host.Outcome.next (settle t)) ?_
  rw [← halfBytes_eq, halfBytes, feedBytes_message kind tag _ _ hunting fits noPair, judge_of_crc hunting]
  exact half_halfBytes (crc covered)

/-! ## What is discarded (R173, R174) -/

theorem silence_of_hunt {s : State} (hunting : s.lnk.rx = .hunt) : silence s = s := by
  rw [silence, hunting]

theorem silence_of_not_hunt {s : State} (amid : s.lnk.rx ≠ .hunt) :
    silence s = { s with lnk := { s.lnk with rx := .hunt, silences := min (s.lnk.silences + 1) 4294967295 } } := by
  unfold silence
  split
  · next hunting => exact absurd hunting amid
  · rfl

theorem lengthKnown_of_long {kind tag : Byte} {length : Nat} {s : State} (hunting : s.lnk.rx = .hunt)
    (long : 4096 < length) :
    lengthKnown kind tag length s =
      { s with lnk := { s.lnk with lengthFaults := min (s.lnk.lengthFaults + 1) 4294967295 } } := by
  rw [lengthKnown, if_pos long, ← hunting]
  rfl

/-- A sync pair and a header reach a hunting receiver, which judges the length. -/
theorem feedBytes_headerBytes (kind tag : Byte) (length : Half) {s : State} (hunting : s.lnk.rx = .hunt) :
    feedBytes (headerBytes kind tag length) s = lengthKnown kind tag length.toNat s := by
  have parts : headerBytes kind tag length = [] ++ [0xA5, 0x5A] ++ ([kind, tag] ++ leBytes 2 length.toNat) := rfl
  rw [parts, feedBytes_append, feedBytes_syncPair hunting (by simp), feedBytes_header kind tag _ s length.isLt]

/-- Settles O6: the CRC judged, the silence by where it finds the receiver, and the length judged. -/
theorem discardedMessagesAreCounted : Obligations.DiscardedMessagesAreCounted := by
  refine ⟨?crc, fun s => ⟨fun hunting => ?hunting, fun amid => ?amid⟩, fun kind tag length s hunting long => ?long⟩
  case crc =>
    intro kind tag low high payload s covered hunting fits wrong
    refine congrArg (fun t => Host.Outcome.next (settle t)) ?_
    calc feedBytes ([] ++ [0xA5, 0x5A] ++ covered ++ [low, high]) s
        = judge kind tag payload (half low high) s := feedBytes_message kind tag low high hunting fits (by simp)
      _ = _ := judge_of_crc_fault hunting wrong
  case hunting => exact congrArg (fun t => Host.Outcome.next (settle t)) (silence_of_hunt hunting)
  case amid => exact congrArg (fun t => Host.Outcome.next (settle t)) (silence_of_not_hunt amid)
  case long =>
    refine congrArg (fun t => Host.Outcome.next (settle t)) ?_
    rw [feedBytes_headerBytes kind tag length hunting, lengthKnown_of_long hunting long]

/-! ## Commands wait and are taken (R176, R177) -/

/-- A command in hand adds nothing to the command queue. -/
theorem runCommand_cmdQueue_length_le (tag : Byte) (c : Command) (s : State) :
    (runCommand tag c s).lnk.cmdQueue.length ≤ s.lnk.cmdQueue.length := by
  rcases runCommand_answered tag c s with e | e | e
  · generalize runCommand tag c s = t at e
    obtain ⟨keeps⟩ := e
    rw [answer_lnk, Lnk.putReply_cmdQueue, keeps.cmdQueue]
  · rw [e]
    unfold cmdSync
    split_ifs <;> exact le_rfl
  · rw [e]
    exact Nat.zero_le _

/-- Allowed to take as many commands as wait, or more, the part takes the same ones. -/
theorem takeUpTo_eq_of_le {m n : Nat} {s : State} (hm : s.lnk.cmdQueue.length ≤ m) (hn : s.lnk.cmdQueue.length ≤ n) :
    takeUpTo m s = takeUpTo n s := by
  induction m generalizing n s with
  | zero =>
    have empty := List.length_eq_zero_iff.mp (Nat.le_zero.mp hm)
    rw [takeUpTo_nil _ _ empty, takeUpTo_nil _ _ empty]
  | succ m ih =>
    cases queue : s.lnk.cmdQueue with
    | nil => rw [takeUpTo_nil _ _ queue, takeUpTo_nil _ _ queue]
    | cons w rest =>
      rw [queue, List.length_cons] at hm hn
      obtain ⟨n, rfl⟩ := Nat.exists_eq_add_of_le' (Nat.one_le_of_lt hn)
      by_cases place : placesUsed s < Config.replyPlaces
      · rw [takeUpTo_succ m s w rest queue place, takeUpTo_succ n s w rest queue place]
        have left := runCommand_cmdQueue_length_le w.tag w.command { s with lnk := { s.lnk with cmdQueue := rest } }
        exact ih (left.trans (Nat.le_of_succ_le_succ hm)) (left.trans (Nat.le_of_succ_le_succ hn))
      · rw [takeUpTo_full _ _ (not_lt.mp place), takeUpTo_full _ _ (not_lt.mp place)]

/-- With a place free the command at the head is taken, and then what can be taken of the rest. -/
theorem takeCommands_of_place {s : State} {w : Waiting} {rest : List Waiting} (queue : s.lnk.cmdQueue = w :: rest)
    (place : placesUsed s < Config.replyPlaces) :
    takeCommands s =
      takeCommands (runCommand w.tag w.command { s with lnk := { s.lnk with cmdQueue := rest } }) := by
  rw [takeCommands, queue, List.length_cons, takeUpTo_succ _ s w rest queue place]
  exact takeUpTo_eq_of_le (runCommand_cmdQueue_length_le ..) le_rfl

theorem deliver_of_room {w : Waiting} {s : State} (room : s.lnk.cmdQueue.length < Config.commandSlots) :
    deliver w s = takeCommands { s with lnk := { s.lnk with cmdQueue := s.lnk.cmdQueue ++ [w] } } := if_pos room

/-- A command that meets a full queue is refused while the refusal list has room. -/
theorem deliver_of_refusal_room {w : Waiting} {s : State} (full : Config.commandSlots ≤ s.lnk.cmdQueue.length)
    (room : refusalsWaiting s < Config.refusalSlots) :
    deliver w s =
      putReply ⟨w.tag, .busy, [], true⟩
        { s with lnk := { s.lnk with overflows := min (s.lnk.overflows + 1) 4294967295 } } := by
  rw [deliver, if_neg (not_lt.mpr full)]
  exact if_pos room

/-- With the refusal list full too, it is discarded. -/
theorem deliver_of_refusals_full {w : Waiting} {s : State} (full : Config.commandSlots ≤ s.lnk.cmdQueue.length)
    (noRoom : Config.refusalSlots ≤ refusalsWaiting s) :
    deliver w s = { s with lnk := { s.lnk with overflows := min (s.lnk.overflows + 1) 4294967295 } } := by
  rw [deliver, if_neg (not_lt.mpr full)]
  exact if_neg (not_lt.mpr noRoom)

/-- Settles O3: the rows by what each stands for, the arrival and the taking by the places free, and the places counted. -/
theorem commandsArriveAndAreTakenInOrder : Obligations.CommandsArriveAndAreTakenInOrder := by
  refine ⟨fun tag s => ?rows, fun tag c s => ⟨deliver_at_once ⟨tag, c⟩ s, deliver_of_room, deliver_of_refusal_room,
    deliver_of_refusals_full⟩, fun w rest s queue => ⟨takeCommands_of_place queue, takeUpTo_full _ s⟩,
    fun s => takeUpTo_nil _ s, fun s => ⟨?refusals, ?places, fun _ => rfl⟩⟩
  case rows =>
    exact ⟨fun _ => rfl, fun _ => rfl, rfl, fun _ => rfl, fun _ => rfl, fun _ => rfl, fun _ => rfl, fun _ => rfl,
      fun _ => rfl, fun _ => rfl, fun _ => rfl, fun _ => rfl, fun _ _ _ => rfl, fun _ _ _ _ => rfl, fun _ _ => rfl,
      rfl, rfl, rfl, rfl, rfl, rfl, rfl, rfl, fun _ => rfl, rfl, rfl⟩
  case refusals => rw [refusalsWaiting, List.countP_eq_length_filter]
  case places =>
    have parked : bit s.tbu.parked.isSome = if s.tbu.parked = none then 0 else 1 := by
      cases s.tbu.parked <;> rfl
    rw [placesUsed, ← List.countP_eq_length_filter, parked]
    cases s.lnk.tx with
    | none => rfl
    | some o =>
      cases o with
      | reply r => cases refusal : r.refusal <;> simp [Outgoing.isPlacedReply, bit, refusal]
      | _ => rfl

/-! ## Queries taken at once (R175, R180, R181) -/

theorem exec_unknownCommand_at_once (tag kind : Byte) (s : State) (ready : Ready s) :
    exec (.unknownCommand tag kind) s = .next (replied tag .unknown [] s) :=
  congrArg Host.Outcome.next (arrive_answered (r := (s, ⟨.unknown, []⟩)) ready rfl)

theorem exec_identify_at_once (tag leaf : Byte) (s : State) (ready : Ready s) :
    exec (.identify tag leaf) s
      = .next (replied tag (identifyAnswer leaf).code (identifyAnswer leaf).payload s) :=
  congrArg Host.Outcome.next (arrive_answered (r := (s, identifyAnswer leaf)) ready rfl)

theorem exec_status_at_once (tag : Byte) (s : State) (ready : Ready s) :
    exec (.status tag) s = .next (replied tag .ok (statusReport s) s) :=
  congrArg Host.Outcome.next (arrive_answered (r := (s, .okWith (statusReport s))) ready rfl)

theorem identifyAnswer_of_no_leaf {leaf : Byte} (above : 3 < leaf.toNat) : identifyAnswer leaf = .bad := by
  unfold identifyAnswer
  split
  case h_5 => rfl
  all_goals omega

/-! ## The length of the STATUS report (R181, R189) -/

theorem length_flatMap_of_length {α : Type} {f : α → List Byte} {l : List α} {k : Nat} (h : ∀ x ∈ l, (f x).length = k) :
    (l.flatMap f).length = l.length * k := by
  rw [List.length_flatMap, List.map_congr_left h, List.map_const', List.sum_replicate, smul_eq_mul]

@[simp] theorem length_flatMap_leBytes (k : Nat) (l : List Nat) : (l.flatMap (leBytes k)).length = l.length * k :=
  length_flatMap_of_length fun v _ => leBytes_length k v

@[simp] theorem optBytes_length (k : Nat) (v : Option Nat) : (optBytes k v).length = k + 1 := by
  cases v <;> simp [optBytes] <;> omega

@[simp] theorem optInt_length (k : Nat) (v : Option Int) : (optInt k v).length = k + 1 := by
  cases v <;> simp [optInt] <;> omega

@[simp] theorem optPair_length (k : Nat) (v : Option (Int × Int)) : (optPair k v).length = 2 * k + 1 := by
  cases v <;> simp [optPair] <;> omega

@[simp] theorem statusSection_length (number : Nat) (fields : List Byte) :
    (statusSection number fields).length = fields.length + 3 := by
  simp [statusSection]; omega

@[simp] theorem bufferStatus_length (b : Buffer) : (bufferStatus b).length = 8 := by
  simp [bufferStatus]

theorem frameRecordBytes_length (r : ExposureRecord) (position : Option Int) (eight : r.drives.length = 8) :
    (frameRecordBytes r position).length = 38 := by
  simp [frameRecordBytes, eight]

/-- The HELD frame's record, or the empty one, has eight drives. -/
theorem heldStatus_length (b : Buffers) (eight : ∀ x ∈ b.all, ∀ r ∈ x.record?, r.drives.length = 8) :
    (heldStatus b).length = 39 := by
  unfold heldStatus
  split
  · next i f held =>
    have drives : f.record.drives.length = 8 :=
      eight (b.get i) ((b.mem_all _).mpr ⟨i, rfl⟩) f.record (by rw [Buffers.get_of_heldFrame held]; rfl)
    simp [frameRecordBytes_length _ _ drives]
  · simp [frameRecordBytes_length emptyRecord none rfl]

theorem fsqStatus_length (f : Fsq) (eight : ∀ x ∈ f.buffers.all, ∀ r ∈ x.record?, r.drives.length = 8) :
    (fsqStatus f).length = 83 := by
  have buffers : (f.buffers.all.flatMap bufferStatus).length = 24 :=
    length_flatMap_of_length fun x _ => bufferStatus_length x
  simp [fsqStatus, SensorRecord.layout, buffers, heldStatus_length f.buffers eight]

theorem Ilc.reportedSectors_length (i : Ilc) (eight : ∀ u ∈ i.lastUpdate, u.sectors.length = 8) :
    i.reportedSectors.length = 8 := by
  unfold Ilc.reportedSectors
  split
  · next u last => exact eight u last
  · rfl

theorem ilcStatus_length (i : Ilc) (drives : i.drives.length = 8) (trims : i.trims.length = 8)
    (last : ∀ u ∈ i.lastUpdate, u.sectors.length = 8) : (ilcStatus i).length = 228 := by
  have sectors : (i.reportedSectors.flatMap sectorStatus).length = 8 * 21 := by
    rw [← i.reportedSectors_length last]
    exact length_flatMap_of_length fun u _ => by simp [sectorStatus]
  simp [ilcStatus, LightRecord.layout, drives, trims, sectors]

theorem previewStatus_length (p : Option Preview) : (previewStatus p).length = 9 := by
  cases p <;> simp [previewStatus]

/-- With eight values kept for each sector STATUS always has the same length (log 14). -/
theorem statusReport_length (s : State) (sectors : SectorsComplete s) : (statusReport s).length = 622 := by
  obtain ⟨-, drives, trims, buffers, last, -⟩ := sectors
  simp [statusReport, fsqStatus_length s.fsq buffers, stripStatus, StripRecord.layout, blkStatus, odoStatus,
    OdometerRecord.layout, AdvisoryRecord.layout, bcfStatus, CentreRecord.layout, geoStatus,
    ilcStatus_length s.ilc drives trims last, cvtStatus, rwsStatus, previewStatus_length, tbuStatus, tableStatus,
    lnkStatus]

/-- Settles O7: the four answers as their rows give them, IDENTIFY leaf by leaf, and the report's sections counted. -/
theorem queriesAreAnsweredAndChangeNothing : Obligations.QueriesAreAnsweredAndChangeNothing := by
  refine ⟨fun tag kind s ready =>
    ⟨exec_unknownCommand_at_once tag kind s ready, arrive_answered (r := (s, .bad)) ready rfl⟩,
    fun tag leaf s ready => ?identify, fun tag s ready => ?status,
    fun s sectors => (statusReport_length s sectors).trans_le (by decide)⟩
  case identify =>
    rw [exec_identify_at_once tag leaf s ready]
    by_cases vendor : leaf = 0
    · subst vendor; rfl
    by_cases part : leaf = 1
    · subst part; rfl
    by_cases sizes : leaf = 2
    · subst sizes; rfl
    by_cases serial : leaf = 3
    · subst serial; rfl
    rw [if_neg vendor, if_neg part, if_neg sizes, if_neg serial, identifyAnswer_of_no_leaf (by bv_omega)]
    rfl
  case status =>
    rw [exec_status_at_once tag s ready]
    simp [statusReport, statusSection]

/-! ## Commands as messages (R175, R179, R182, R189) -/

/-- A kind outside the seventeen is unknown. -/
theorem parseCommand_of_no_kind {kind : Byte} (payload : List Byte) (outside : kind.toNat = 0 ∨ 0x11 < kind.toNat) :
    parseCommand kind payload = .unknown kind := by
  unfold parseCommand
  split
  case h_18 => rfl
  all_goals omega

theorem fitsMessage_tableWrite_iff {table : Byte} {start : Half} {values : List Half} :
    fitsMessage (.tableWrite table start values) = true ↔ 1 ≤ values.length ∧ values.length ≤ 1024 := by
  simp [fitsMessage]

theorem fitsMessage_note_iff {text : List Byte} :
    fitsMessage (.note text) = true ↔ 1 ≤ text.length ∧ text.length ≤ 32 := by
  simp [fitsMessage]

theorem fitsMessage_unknown_iff {kind : Byte} :
    fitsMessage (.unknown kind) = true ↔ kind.toNat = 0 ∨ 0x11 < kind.toNat := by
  simp [fitsMessage]

/-- The kind and payload of a command are read as that command. -/
theorem parseCommand_encodeCommand (c : Command) (fits : fitsMessage c = true) :
    parseCommand (encodeCommand c).1 (encodeCommand c).2 = c := by
  cases c with
  | unknown kind => exact parseCommand_of_no_kind [] (fitsMessage_unknown_iff.mp fits)
  | tableWrite table start values =>
    have size := fitsMessage_tableWrite_iff.mp fits
    simp [encodeCommand, parseCommand, parseTableWrite, halfBytes, size]
  | note text =>
    have size := fitsMessage_note_iff.mp fits
    simp [encodeCommand, parseCommand, parseNote, size]
  | _ => simp [encodeCommand, parseCommand, parseRecord, halfBytes, wordBytes, parseEmpty, parseReset]

theorem encodeCommand_length_le (c : Command) (fits : fitsMessage c = true) : (encodeCommand c).2.length ≤ 4096 := by
  cases c with
  | tableWrite table start values =>
    have size := fitsMessage_tableWrite_iff.mp fits
    have bytes : (encodeCommand (.tableWrite table start values)).2.length = values.length * 2 + 4 := by
      simp [encodeCommand, halfBytes_eq]
      omega
    omega
  | note text => exact (fitsMessage_note_iff.mp fits).2.trans (by decide)
  | _ => simp [encodeCommand, halfBytes, wordBytes]

theorem leBytes_one (v : Nat) : leBytes 1 v = [BitVec.ofNat 8 v] := rfl

/-! ### Malformed payloads, layout by layout (R175) -/

theorem parseEmpty_eq_malformed_iff {c : Command} (named : c ≠ .malformed) (payload : List Byte) :
    parseEmpty c payload = .malformed ↔ payload.length ≠ 0 := by
  cases payload <;> simp [parseEmpty, named]

theorem parseNote_eq_malformed_iff (text : List Byte) :
    parseNote text = .malformed ↔ ¬ (1 ≤ text.length ∧ text.length ≤ 32) := by
  unfold parseNote
  split <;> simp [*]

theorem parseReset_eq_malformed_iff (payload : List Byte) :
    parseReset payload = .malformed ↔ ¬ (payload.length = 1 ∧ (payload.headD 0).toNat ≤ 1) := by
  unfold parseReset
  split
  · simp
  · simp
  · next notStream notFull =>
    simp only [true_iff, not_and]
    rcases payload with _ | ⟨v, _ | ⟨w, rest⟩⟩
    · simp
    · intro _ small
      have variant : v = 0 ∨ v = 1 := by simp at small; bv_omega
      rcases variant with rfl | rfl
      · exact notStream rfl
      · exact notFull rfl
    · simp

theorem parseTableWrite_eq_malformed_iff (payload : List Byte) :
    parseTableWrite payload = .malformed ↔
      ¬ (6 ≤ payload.length ∧ payload.length ≤ 2052 ∧ payload.length % 2 = 0) := by
  unfold parseTableWrite
  split
  case h_2 short =>
    rcases payload with _ | ⟨a, _ | ⟨b, _ | ⟨c, _ | ⟨d, values⟩⟩⟩⟩
    case cons.cons.cons.cons => exact absurd rfl (short a b c d values)
    all_goals simp
  case h_1 table pad s0 s1 values =>
    obtain ⟨unpaired, paired⟩ := halves_cases values
    cases read : halves values with
    | none =>
      have odd := unpaired.mp read
      simp only [List.length_cons, true_iff]
      omega
    | some vs =>
      have twice := paired vs read
      simp only [List.length_cons]
      split <;> simp <;> omega

/-- A record code with as many field bytes as its layout has spells a record. -/
theorem parseRecord_ne_malformed {code : Byte} {fields : List Byte}
    (layout : (code, fields.length) ∈ [((1 : Byte), 9), (2, 16), (3, 8), (4, 12), (5, 8), (6, 2), (7, 6), (8, 2)]) :
    parseRecord (code :: fields) ≠ .malformed := by
  simp only [List.mem_cons, Prod.mk.injEq, List.not_mem_nil, or_false] at layout
  rcases layout with ⟨rfl, len⟩ | ⟨rfl, len⟩ | ⟨rfl, len⟩ | ⟨rfl, len⟩ | ⟨rfl, len⟩ | ⟨rfl, len⟩ | ⟨rfl, len⟩ |
    ⟨rfl, len⟩
  · match fields, len with
    | [_, _, _, _, _, _, _, _, _], _ => exact nofun
  · match fields, len with
    | [_, _, _, _, _, _, _, _, _, _, _, _, _, _, _, _], _ => exact nofun
  · match fields, len with
    | [_, _, _, _, _, _, _, _], _ => exact nofun
  · match fields, len with
    | [_, _, _, _, _, _, _, _, _, _, _, _], _ => exact nofun
  · match fields, len with
    | [_, _, _, _, _, _, _, _], _ => exact nofun
  · match fields, len with
    | [_, _], _ => exact nofun
  · match fields, len with
    | [_, _, _, _, _, _], _ => exact nofun
  · match fields, len with
    | [_, _], _ => exact nofun

theorem parseRecord_eq_malformed_iff (payload : List Byte) :
    parseRecord payload = .malformed ↔
      (payload.headD 0, payload.length) ∉ [(1, 10), (2, 17), (3, 9), (4, 13), (5, 9), (6, 3), (7, 7), (8, 3)] := by
  constructor
  · intro bad layout
    cases payload with
    | nil => simp at layout
    | cons code fields => exact parseRecord_ne_malformed (by simpa using layout) bad
  · intro noLayout
    unfold parseRecord
    split
    case h_9 => rfl
    all_goals simp at noLayout

theorem parseCommand_identify_eq_malformed_iff {kind : Byte} (k : kind.toNat = 0x01) (payload : List Byte) :
    parseCommand kind payload = .malformed ↔ payload.length ≠ 1 := by
  rcases payload with _ | ⟨leaf, _ | ⟨b, rest⟩⟩ <;> simp [parseCommand, k]

theorem parseCommand_preset_eq_malformed_iff {kind : Byte} (k : kind.toNat = 0x04) (payload : List Byte) :
    parseCommand kind payload = .malformed ↔ payload.length ≠ 4 := by
  rcases payload with _ | ⟨b0, _ | ⟨b1, _ | ⟨b2, _ | ⟨b3, _ | ⟨b, rest⟩⟩⟩⟩⟩ <;> simp [parseCommand, k]

theorem parseCommand_tableRead_eq_malformed_iff {kind : Byte} (k : kind.toNat = 0x06) (payload : List Byte) :
    parseCommand kind payload = .malformed ↔ payload.length ≠ 6 := by
  rcases payload with _ | ⟨t, _ | ⟨c, _ | ⟨s0, _ | ⟨s1, _ | ⟨c0, _ | ⟨c1, _ | ⟨b, rest⟩⟩⟩⟩⟩⟩⟩ <;>
    simp [parseCommand, k]

theorem parseCommand_commit_eq_malformed_iff {kind : Byte} (k : kind.toNat = 0x07) (payload : List Byte) :
    parseCommand kind payload = .malformed ↔ payload.length ≠ 4 := by
  rcases payload with _ | ⟨t, _ | ⟨pad, _ | ⟨g0, _ | ⟨g1, _ | ⟨b, rest⟩⟩⟩⟩⟩ <;> simp [parseCommand, k]

/-- Settles O5: what is sent is read back, each layout as the host writes it, the malformed payloads kind by kind, and the pads
by the number of bytes behind them. -/
theorem payloadSpellsItsCommand : Obligations.PayloadSpellsItsCommand := by
  refine ⟨fun c fits => ⟨parseCommand_encodeCommand c fits, encodeCommand_length_le c fits⟩, ?sent,
    fun kind payload => ?malformed, fun pad t s f x0 x1 y0 y1 rest => ?pads⟩
  case sent =>
    intro sent
    have values : halfBytes = fun h => leBytes 2 h.toNat := funext halfBytes_eq
    refine ⟨?_, rfl, ?_, ?_, ?_, ?_, ?_, ?_, ?_, ?_, ?_, ?_, ?_, ?_, fun _ => rfl, rfl, rfl⟩
    all_goals
      intros
      simp [sent, encodeCommand, values, wordBytes_eq, leBytes_one, List.flatMap_map]
  case malformed =>
    refine ⟨parseCommand_of_no_kind payload, fun low high => ?_⟩
    obtain k | k | k | k | k | k | k | k | k | ⟨least, greatest⟩ :
        kind.toNat = 0x01 ∨ kind.toNat = 0x02 ∨ kind.toNat = 0x03 ∨ kind.toNat = 0x04 ∨ kind.toNat = 0x05
          ∨ kind.toNat = 0x06 ∨ kind.toNat = 0x07 ∨ kind.toNat = 0x10 ∨ kind.toNat = 0x11
          ∨ 0x08 ≤ kind.toNat ∧ kind.toNat ≤ 0x0F := by omega
    · simp [parseCommand_identify_eq_malformed_iff k, k]
    · simp [parseCommand, k, parseEmpty_eq_malformed_iff]
    · simp [parseCommand, k, parseRecord_eq_malformed_iff]
    · simp [parseCommand_preset_eq_malformed_iff k, k]
    · simp [parseCommand, k, parseTableWrite_eq_malformed_iff]
    · simp [parseCommand_tableRead_eq_malformed_iff k, k]
    · simp [parseCommand_commit_eq_malformed_iff k, k]
    · simp [parseCommand, k, parseNote_eq_malformed_iff]
    · simp [parseCommand, k, parseReset_eq_malformed_iff]
    · interval_cases k : kind.toNat <;> simp [parseCommand, k, parseEmpty_eq_malformed_iff]
  case pads =>
    refine ⟨?_, ?_, ?_, ?_⟩
    · rcases rest with _ | ⟨_, _ | ⟨_, _⟩⟩ <;> rfl
    · rcases rest with _ | ⟨_, _ | ⟨_, _ | ⟨_, _⟩⟩⟩ <;> rfl
    · rcases rest with _ | ⟨_, _ | ⟨_, _ | ⟨_, _ | ⟨_, _ | ⟨_, _ | ⟨_, _ | ⟨_, _⟩⟩⟩⟩⟩⟩⟩ <;> rfl
    · rcases rest with _ | ⟨_, _ | ⟨_, _ | ⟨_, _ | ⟨_, _ | ⟨_, _ | ⟨_, _ | ⟨_, _⟩⟩⟩⟩⟩⟩⟩ <;> rfl

end Sys2Proof.Machine

/-! # The step and the queue: first in, first out, and every command and event completes -/

namespace Sys2Proof.Machine

/-- With commands and events waiting, a step takes the first and leaves the others in their order. -/
theorem step_of_pending {s : State} {c : Instr} {rest : List Instr} (front : s.pending = c :: rest) :
    step s = exec c { s with pending := rest } := by
  unfold step
  rw [front]

/-- Settles O1: what was put in front is taken first, and taking it leaves the queue as it was before. -/
theorem stepTakesTheFrontCommand : Obligations.StepTakesTheFrontCommand := by
  intro c s
  have taken : step { s with pending := c :: s.pending } = exec c { s with pending := s.pending } := step_of_pending rfl
  exact taken

/-- Settles O2: every row of the table ends in a state with the transmitters' turn taken, none in a fault or a refusal. -/
theorem everyStepCompletes : Obligations.EveryStepCompletes := by
  intro c s
  obtain ⟨u, settles⟩ := exec_settles c s
  exact ⟨settle u, settles⟩

end Sys2Proof.Machine
